-- ==== Sys2Proof/Word.lean ====
section
/-! DEFINITION. The word types of the block, and the two word formats in which the spec writes an instruction down. -/

namespace Sys2Proof

/-- A register value: every register is 16 bits wide (R20). -/
abbrev Word := BitVec 16

/-- One byte of IBUF (R48). -/
abbrev Byte := BitVec 8

/-- A register number, 0x00 to 0xFF (R20). -/
abbrev RegNum := BitVec 8

/-- A buffer index as a host transaction carries it (R70). -/
abbrev BufIdx := BitVec 16

/-- An encoded instruction, in the format the opcode table gives its row. -/
inductive HostWord where
  /-- CMD16: the 16-bit value of one host write of CMD (R100). -/
  | cmd16 (v : Word)
  /-- HT32: a host transaction written as a 32-bit word (R106). -/
  | ht32 (w : BitVec 32)
  deriving DecidableEq, Repr

end Sys2Proof
end

