-- ==== Sys2Proof/Config.lean ====
section
/-! DEFINITION. The open parameters of the block and its one free value. -/

namespace Sys2Proof

/-- The implementation parameters that no rule fixes (R6, R7).
A State carries its own Config, which the registers CAP_BUF and CAP_FIELD show (R45), so that a claim about
every State is a claim for every capacity. -/
structure Config where
  /-- BUF_CAP, the capacity of IBUF in bytes: 2 to 65535 (R6). -/
  bufCap : Nat
  /-- FIELD_CAP, the number of FIELD entries: 0 to 192 (R7). -/
  fieldCap : Nat
  deriving DecidableEq, Repr

/-- The values the spec suggests: BUF_CAP 256 and FIELD_CAP 32 (R6, R7).
DESIGN CHOICE (log entry 1): State.reset carries these; State.resetWith takes any. -/
def Config.suggested : Config := { bufCap := 256, fieldCap := 32 }

/-- FREE VALUE (log entry 2): what byte `a` of IBUF holds after the reset numbered `n`, until the host writes it.
R48: the contents after reset are unspecified, an arbitrary draw per byte under no law. -/
opaque Config.ibufDraw (n a : Nat) : Byte

end Sys2Proof
end

