-- ==== Sys2Proof/Syntax.lean ====
section
/-! DEFINITION. The instructions: one constructor per row of spec/opcode_table.json. -/

namespace Sys2Proof

/-- An instruction of the block.
The seven commands are host writes of CMD (R100, R101) and have no operand (R102).
The four host transactions carry their operands (R70). -/
inductive Instr where
  /-- NOP, command word 0x0000 (R200). -/
  | nop
  /-- CLEAR, command word 0x0001 (R201). -/
  | clear
  /-- EXTRACT, command word 0x0002 (R121). -/
  | extract
  /-- VERIFY, command word 0x0003 (R145). -/
  | verify
  /-- DECODE, command word 0x0004 (R170). -/
  | decode
  /-- CYCLE, command word 0x0005 (R202). -/
  | cycle
  /-- CRC, command word 0x0006 (R160). -/
  | crc
  /-- RegRead(r) (R71). -/
  | regRead (r : RegNum)
  /-- RegWrite(r, v) (R73). -/
  | regWrite (r : RegNum) (v : Word)
  /-- BufRead(a) (R72). -/
  | bufRead (a : BufIdx)
  /-- BufWrite(a, b) (R72). -/
  | bufWrite (a : BufIdx) (b : Byte)
  deriving DecidableEq, Repr

end Sys2Proof
end

