-- ==== Sys2Proof/WellFormed.lean ====
section
/-! DEFINITION. What is well formed: a configuration, an encoded word, an instruction. -/

namespace Sys2Proof

/-- BUF_CAP is in its legal range (R6). -/
def Config.bufCapLegal (c : Config) : Bool := decide (2 ≤ c.bufCap) && decide (c.bufCap ≤ 65535)

/-- FIELD_CAP is in its legal range (R7). -/
def Config.fieldCapLegal (c : Config) : Bool := decide (c.fieldCap ≤ 192)

/-- Both parameters are in their legal ranges (R6, R7). -/
def Config.wellFormed (c : Config) : Bool := c.bufCapLegal && c.fieldCapLegal

/-- RSV, bits [15:4] of a command word, is 0 (R100). -/
def rsvIsZero (v : Word) : Bool := v.extractLsb' 4 12 == 0#12

/-- OP, bits [3:0] of a command word, is one of 0x0 to 0x6 (R101, R103). -/
def opIsDefined (v : Word) : Bool := decide ((v.extractLsb' 0 4).toNat < 7)

/-- Z, bits [29:24] of an HT32 word, is 0 (R106). -/
def zIsZero (w : BitVec 32) : Bool := w.extractLsb' 24 6 == 0#6

/-- The bits that must be 0x00 in an HT32 word are: [15:0] of a RegRead, [7:0] of a BufRead (R106). -/
def unusedAreZero (w : BitVec 32) : Bool :=
  (w.extractLsb' 30 2 != 0#2 || w.extractLsb' 0 16 == 0#16) &&
  (w.extractLsb' 30 2 != 2#2 || w.extractLsb' 0 8 == 0#8)

/-- An encoded word names an instruction. -/
def HostWord.wellFormed : HostWord → Bool
  | .cmd16 v => rsvIsZero v && opIsDefined v
  | .ht32 w => zIsZero w && unusedAreZero w

/-- Every term of Instr is well formed: a command has no operand (R102), and the type of each operand of a host
transaction is exactly the range the rule gives it (R70), so nothing is left to check. -/
def Instr.wellFormed : Instr → Bool
  | .nop | .clear | .extract | .verify | .decode | .cycle | .crc => true
  | .regRead _ => true
  | .regWrite _ _ => true
  | .bufRead _ => true
  | .bufWrite _ _ => true

end Sys2Proof
end

