-- ==== Sys2Proof/Decode.lean ====
section
/-! DEFINITION. Decoding, total on every word and rejecting by name, and the encoder. -/

namespace Sys2Proof

/-- Why a word is no instruction. -/
inductive Reject where
  /-- A command word with RSV ≠ 0: illegal (R103). -/
  | rsvNotZero
  /-- A command word with a reserved OP, 0x7 to 0xF: illegal (R103). -/
  | reservedOp (op : BitVec 4)
  /-- An HT32 word with Z ≠ 0: names no transaction (R106). -/
  | zNotZero
  /-- An HT32 word with a bit set that must be 0x00: names no transaction (R106). -/
  | unusedNotZero
  deriving DecidableEq, Repr

/-- What a decoder answers. -/
inductive Decoded (α : Type) where
  | ok (x : α)
  | rejected (r : Reject)
  deriving DecidableEq, Repr

/-- The seven commands that a CMD write can start (R101). -/
inductive Command where
  | nop | clear | extract | verify | decode | cycle | crc
  deriving DecidableEq, Repr

/-- The instruction that a command is. -/
def Command.instr : Command → Instr
  | .nop => .nop
  | .clear => .clear
  | .extract => .extract
  | .verify => .verify
  | .decode => .decode
  | .cycle => .cycle
  | .crc => .crc

/-- A command's OP (R101). -/
def Command.op : Command → BitVec 4
  | .nop => 0x0#4
  | .clear => 0x1#4
  | .extract => 0x2#4
  | .verify => 0x3#4
  | .decode => 0x4#4
  | .cycle => 0x5#4
  | .crc => 0x6#4

/-- A command's word: RSV = 0 in [15:4], OP in [3:0] (R100). -/
def Command.word (c : Command) : Word := 0#12 ++ c.op

/-- Decode a command word (R100, R101, R103). -/
def decodeCommand (v : Word) : Decoded Command :=
  if v.extractLsb' 4 12 = 0#12 then
    match (v.extractLsb' 0 4).toNat with
    | 0x0 => .ok .nop
    | 0x1 => .ok .clear
    | 0x2 => .ok .extract
    | 0x3 => .ok .verify
    | 0x4 => .ok .decode
    | 0x5 => .ok .cycle
    | 0x6 => .ok .crc
    | _ => .rejected (.reservedOp (v.extractLsb' 0 4))
  else .rejected .rsvNotZero

/-- Decode an HT32 word: K in [31:30], Z in [29:24], A in [23:16], B in [15:8], C in [7:0] (R106). -/
def decodeTransaction (w : BitVec 32) : Decoded Instr :=
  if w.extractLsb' 24 6 = 0#6 then
    match (w.extractLsb' 30 2).toNat with
    | 0 =>
      if w.extractLsb' 0 16 = 0#16 then .ok (.regRead (w.extractLsb' 16 8)) else .rejected .unusedNotZero
    | 1 => .ok (.regWrite (w.extractLsb' 16 8) (w.extractLsb' 0 16))
    | 2 =>
      if w.extractLsb' 0 8 = 0#8 then .ok (.bufRead (w.extractLsb' 8 16)) else .rejected .unusedNotZero
    | _ => .ok (.bufWrite (w.extractLsb' 8 16) (w.extractLsb' 0 8))
  else .rejected .zNotZero

/-- Decode an encoded word of either format. -/
def decode : HostWord → Decoded Instr
  | .cmd16 v =>
    match decodeCommand v with
    | .ok c => .ok c.instr
    | .rejected r => .rejected r
  | .ht32 w => decodeTransaction w

/-- The word of an instruction, from the same tables (R100, R101, R106). -/
def encode : Instr → HostWord
  | .nop => .cmd16 Command.nop.word
  | .clear => .cmd16 Command.clear.word
  | .extract => .cmd16 Command.extract.word
  | .verify => .cmd16 Command.verify.word
  | .decode => .cmd16 Command.decode.word
  | .cycle => .cmd16 Command.cycle.word
  | .crc => .cmd16 Command.crc.word
  | .regRead r => .ht32 (0b00#2 ++ 0#6 ++ r ++ 0#16)
  | .regWrite r v => .ht32 (0b01#2 ++ 0#6 ++ r ++ v)
  | .bufRead a => .ht32 (0b10#2 ++ 0#6 ++ a ++ 0#8)
  | .bufWrite a b => .ht32 (0b11#2 ++ 0#6 ++ a ++ b)

/-- The word that `w` is in the format of a table row of `nbits` bits: CMD16 rows have 16, HT32 rows have 32. -/
def tableWord (nbits w : Nat) : HostWord :=
  if nbits ≤ 16 then .cmd16 (BitVec.ofNat 16 w) else .ht32 (BitVec.ofNat 32 w)

/-- The instruction the decoder reads from a word of a table row of `nbits` bits. -/
def decodeTableWord (nbits w : Nat) : Option Instr :=
  match decode (tableWord nbits w) with
  | .ok i => some i
  | .rejected _ => none

end Sys2Proof
end

