-- ==== Sys2Proof/Machine/Memory.lean ====
section
/-! DEFINITION. IBUF's storage: a list of the bytes written since reset, in one canonical form. -/

namespace Sys2Proof.Machine

/-- The bytes that have been written, with their addresses. An address that is not listed has not been written. -/
abbrev Memory := List Host.Cell

/-- The canonical form: addresses strictly rising.
An unlisted address answers `none`, which no byte equals, so no entry repeats what an unlisted address reads as. -/
def Memory.wf : Memory → Bool
  | [] => true
  | [_] => true
  | (a, _) :: (b, y) :: m => decide (a < b) && Memory.wf ((b, y) :: m)

/-- Every listed address is below `cap` (R48: IBUF has BUF_CAP bytes). -/
def Memory.below (m : Memory) (cap : Nat) : Bool := m.all fun c => decide (c.1 < cap)

/-- The byte written at an address, or none where nothing has been written. -/
def Memory.get? : Memory → Nat → Option (BitVec 8)
  | [], _ => none
  | (k, v) :: m, a => if k = a then some v else Memory.get? m a

/-- Write one byte, keeping the addresses rising. -/
def Memory.set : Memory → Nat → BitVec 8 → Memory
  | [], a, b => [(a, b)]
  | (k, v) :: m, a, b =>
    if a < k then (a, b) :: (k, v) :: m
    else if a = k then (a, b) :: m
    else (k, v) :: Memory.set m a b

end Sys2Proof.Machine
end

