-- ==== Sys2Proof/Machine/State.lean ====
section
/-! DEFINITION. The state of the block, plain data, and the state after reset. -/

namespace Sys2Proof.Machine

open Sys2Proof

/-- CMD_STATUS.CODE: the acceptance of the last command word (R23). -/
inductive CmdStatus where
  | ok | illegal | sequence | range
  deriving DecidableEq, Repr

/-- STATE: the pipeline state (R24). EXTRACTING is held only inside a command (R78). -/
inductive Phase where
  | idle | extracting | verifying | decoding | ready | failed
  deriving DecidableEq, Repr

/-- ERR: the failure reason (R25). -/
inductive Err where
  | none
  | markerNotFoundSof
  | markerNotFoundEof
  | frameTooShort
  | crcMismatch
  | payloadLengthMismatch
  | profileInvalid
  deriving DecidableEq, Repr

/-- What the host port returned for the last host transaction (R70).
The model's own field: the spec gives a transaction a result and no register to hold it (log entry 3). -/
inductive Reply where
  /-- No result: a write transaction, or no transaction yet. -/
  | nothing
  /-- The 16-bit value a RegRead returned. -/
  | reg (v : Word)
  /-- The 8-bit value a BufRead returned. -/
  | byte (b : Byte)
  deriving DecidableEq, Repr

/-- Something the outside world does to the block, in the order in which it happens (R82).
The model's own type: the inputs that a step takes one at a time (log entry 3). -/
inductive PortEvent where
  /-- The reset input is asserted (R250). It falls between transactions (R251). -/
  | resetInput
  /-- The one host issues a transaction, given by its encoded word (R70, R100, R106). -/
  | request (w : HostWord)
  /-- A second host issues a transaction on this instance, which the spec does not admit (R259). -/
  | secondHost (w : HostWord)
  deriving DecidableEq, Repr

/-- Why a step can fault. There is no constructor: no behaviour of the block is a fault (R220, and the file
93_implementation_defined.md, "No behaviour of the block is treated as fault or stuck"). -/
inductive Fault where
  deriving DecidableEq, Repr

/-- Why a step has no meaning. -/
inductive Refusal where
  /-- An instruction with no meaning in this model yet; raised by an arm of exec. No arm raises it now. Safe. -/
  | notModelled (mnemonic : String)
  /-- A second host issued a transaction: a model must refuse it (R259). Raised by step. Safe. -/
  | secondHost
  /-- The word on the port names no transaction (R106), so there is nothing to run. Raised by step. Safe. -/
  | noTransaction
  deriving DecidableEq, Repr

/-- The whole state (R53, with the registers of R21), and the model's own fields `draw`, `port` and `reply`. -/
structure State where
  /-- CAP_BUF and CAP_FIELD: the two parameters, constant (R45). -/
  cfg : Config
  /-- IBUF: the bytes the host has written since reset, addresses strictly rising (R48). -/
  ibuf : List Host.Cell
  /-- MODEL: the number of resets so far, which picks the free contents of IBUF (R48, log entry 2). -/
  draw : Nat
  /-- CMD_STATUS (R23). -/
  cmdStatus : CmdStatus
  /-- STATE (R24). -/
  phase : Phase
  /-- ERR (R25). -/
  err : Err
  /-- IBUF_LEN (R26). -/
  ibufLen : Word
  /-- VCOUNT (R27). -/
  vcount : Word
  /-- TCOUNT (R28). -/
  tcount : Word
  /-- HDR_END (R29). -/
  hdrEnd : Word
  /-- TAIL_TRIM (R30). -/
  tailTrim : Word
  /-- SCALE.VEXP (R31). -/
  vexp : BitVec 2
  /-- SCALE.TEXP (R31). -/
  texp : BitVec 2
  /-- SOF_IDX (R32). -/
  sofIdx : Word
  /-- EOF_IDX (R33). -/
  eofIdx : Word
  /-- FRAME_LEN (R34). -/
  frameLen : Word
  /-- CRC_RETRIEVED (R35). -/
  crcRetrieved : Word
  /-- CRC_COMPUTED (R36). -/
  crcComputed : Word
  /-- PAYLOAD_OFF (R37). -/
  payloadOff : Word
  /-- PAYLOAD_LEN (R38). -/
  payloadLen : Word
  /-- RD_VCOUNT (R39). -/
  rdVcount : Word
  /-- RD_TCOUNT (R40). -/
  rdTcount : Word
  /-- RD_SCALE.VEXP (R41). -/
  rdVexp : BitVec 2
  /-- RD_SCALE.TEXP (R41). -/
  rdTexp : BitVec 2
  /-- CRC_ARG_START (R42). -/
  crcArgStart : Word
  /-- CRC_ARG_LEN (R43). -/
  crcArgLen : Word
  /-- CRC_RESULT (R44). -/
  crcResult : Word
  /-- FIELD[0 .. FIELD_CAP) (R47). -/
  field : List Word
  /-- MODEL: the events the outside world has issued and the block has not yet taken, oldest first. -/
  port : List PortEvent
  /-- MODEL: what the port returned for the last transaction. -/
  reply : Reply
  deriving DecidableEq, Repr

/-- The state right after the reset numbered `n` of a block of configuration `c` (R250): every register at the
reset value of R21, every FIELD entry 0, no byte of IBUF written. -/
def State.resetWith (c : Config) (n : Nat) : State where
  cfg := c
  ibuf := []
  draw := n
  cmdStatus := .ok
  phase := .idle
  err := .none
  ibufLen := 0#16
  vcount := 0#16
  tcount := 0#16
  hdrEnd := 5#16
  tailTrim := 4#16
  vexp := 3#2
  texp := 1#2
  sofIdx := 0#16
  eofIdx := 0#16
  frameLen := 0#16
  crcRetrieved := 0#16
  crcComputed := 0#16
  payloadOff := 0#16
  payloadLen := 0#16
  rdVcount := 0#16
  rdTcount := 0#16
  rdVexp := 0#2
  rdTexp := 0#2
  crcArgStart := 0#16
  crcArgLen := 0#16
  crcResult := 0#16
  field := List.replicate c.fieldCap 0#16
  port := []
  reply := .nothing

/-- The machine right after reset (R250), with the suggested capacities (log entry 1). -/
def State.reset : State := State.resetWith Config.suggested 0

end Sys2Proof.Machine
end

