-- ==== Sys2Proof/Machine/Ops.lean ====
section
/-! DEFINITION. The named operations over the state: IBUF accesses, the result group, the two ways to raise an
error, what leaves FAILED, and the register writes of the pipeline stages. -/

namespace Sys2Proof.Machine

open Sys2Proof

/-- `IBUF[i]` (R11): the byte the host wrote last, or the free value where it has written none since reset (R48).
An index at or above BUF_CAP names no byte of IBUF; no reachable state makes the engine read one (R149), and the
model answers the free value there too (log entry 2). -/
def State.ibufByte (s : State) (i : Nat) : Byte :=
  (Memory.get? s.ibuf i).getD (Config.ibufDraw s.draw i)

/-- `IBUF[a .. b)`, empty when b ≤ a (R10). -/
def State.bufRange (s : State) (a b : Nat) : List Byte :=
  (List.range' a (b - a)).map s.ibufByte

/-- `MemRead(a, 2)`: big-endian, the byte at the lower index is the more significant (R11, R75). -/
def State.memRead2 (s : State) (a : Nat) : Word :=
  s.ibufByte a ++ s.ibufByte (a + 1)

/-- `be16(v)`: the two bytes `[v[15:8], v[7:0]]` (R10). -/
def be16 (v : Word) : List Byte := [v.extractLsb' 8 8, v.extractLsb' 0 8]

/-- A register takes an exact index, length or count (R10, R32 to R40).
In every reachable state the value is at most BUF_CAP ≤ 65535 (R52 item 7); the model keeps the low 16 bits of a
larger one (log entry 5). -/
def index16 (n : Nat) : Word := BitVec.ofNat 16 n

/-- `REG[CMD_STATUS] <- c`. -/
def State.setCmdStatus (s : State) (c : CmdStatus) : State := { s with cmdStatus := c }

/-- `REG[STATE] <- p`. -/
def State.setPhase (s : State) (p : Phase) : State := { s with phase := p }

/-- `ClearResults()`: 0 to every register of the result group (R49). -/
def State.clearResults (s : State) : State :=
  { s with
    err := .none
    sofIdx := 0#16
    eofIdx := 0#16
    frameLen := 0#16
    crcRetrieved := 0#16
    crcComputed := 0#16
    payloadOff := 0#16
    payloadLen := 0#16
    rdVcount := 0#16
    rdTcount := 0#16
    rdVexp := 0#2
    rdTexp := 0#2
    field := List.replicate s.cfg.fieldCap 0#16 }

/-- `raise Failure(code)`: the pipeline failure entry (R224). -/
def State.raiseFailure (s : State) (code : Err) : State :=
  { s with
    phase := .failed
    err := code
    field := List.replicate s.cfg.fieldCap 0#16
    rdVcount := 0#16
    rdTcount := 0#16
    rdVexp := 0#2
    rdTexp := 0#2 }

/-- `raise CmdError(code)`: the command rejection entry (R226). -/
def State.raiseCmdError (s : State) (code : CmdStatus) : State := { s with cmdStatus := code }

/-- What CLEAR does, and the IBUF invalidation: back to IDLE with the result group cleared (R201, R74).
There is no return-from-trap command; this, a new cycle and reset are what leaves FAILED (R229). -/
def State.toIdle (s : State) : State := s.clearResults.setPhase .idle

/-- The IBUF invalidation: a write to IBUF or IBUF_LEN while a view is held drops the view (R74). -/
def State.invalidate (s : State) : State :=
  if s.phase = .verifying ∨ s.phase = .decoding then s.toIdle else s

/-- `REG[SOF_IDX] <- sof` (R123). -/
def State.holdSof (s : State) (sof : Nat) : State := { s with sofIdx := index16 sof }

/-- The frame view: EOF_IDX, FRAME_LEN and STATE = VERIFYING (R125). -/
def State.holdFrame (s : State) (eof len : Nat) : State :=
  { s with
    eofIdx := index16 eof
    frameLen := index16 len
    phase := .verifying }

/-- CRC_RETRIEVED and CRC_COMPUTED (R145). -/
def State.holdCrcs (s : State) (retrieved computed : Word) : State :=
  { s with
    crcRetrieved := retrieved
    crcComputed := computed }

/-- The payload view: PAYLOAD_OFF, PAYLOAD_LEN and STATE = DECODING (R145). -/
def State.holdPayload (s : State) (off len : Nat) : State :=
  { s with
    payloadOff := index16 off
    payloadLen := index16 len
    phase := .decoding }

/-- The reading: the first FIELD entries, the split, the scale in force and STATE = READY (R170, R173). -/
def State.holdReading (s : State) (fields : List Word) : State :=
  { s with
    field := fields ++ s.field.drop fields.length
    rdVcount := s.vcount
    rdTcount := s.tcount
    rdVexp := s.vexp
    rdTexp := s.texp
    phase := .ready }

/-- What a stage of the pipeline comes to: it reached its end, or a `raise Failure` ended the command (R11). -/
inductive StageResult where
  | goesOn (s : State)
  | ended (s : State)
  deriving DecidableEq, Repr

/-- The state a stage leaves. -/
def StageResult.state : StageResult → State
  | .goesOn s => s
  | .ended s => s

/-- Run the next stage, unless a failure has ended the command (R202). -/
def StageResult.andThen (r : StageResult) (next : State → StageResult) : StageResult :=
  match r with
  | .goesOn s => next s
  | .ended s => .ended s

end Sys2Proof.Machine
end

