-- ==== Sys2Proof/Machine/FieldExtractor.lean ====
section
/-! DEFINITION. The field extractor, DECODE, and the unit scaler (42_field_extractor.md). -/

namespace Sys2Proof.Machine

open Sys2Proof

/-- The first `n` fields of the payload: field i is the big-endian pair at p + 2i (R172, R183). -/
def State.payloadFields (s : State) (n : Nat) : List Word :=
  (List.range n).map fun i => s.memRead2 (s.payloadOff.toNat + 2 * i)

/-- The body of DECODE, from the line after its STATE check (R170). N + M is exact (R171). -/
def decodeBody (s : State) : StageResult :=
  let s := s.setCmdStatus .ok
  let count := s.vcount.toNat + s.tcount.toNat
  if s.cfg.fieldCap < count then .ended (s.raiseFailure .profileInvalid)
  else if s.payloadLen.toNat ≠ 2 * count then .ended (s.raiseFailure .payloadLengthMismatch)
  else .goesOn (s.holdReading (s.payloadFields count))

/-- DECODE, legal in DECODING only (R170, R205). -/
def cmdDecode (s : State) : State :=
  if s.phase = .decoding then (decodeBody s).state else s.raiseCmdError .sequence

/-- The meaning of DECODE. -/
def execDecode (s : State) : Host.Outcome State Fault Refusal := .next (cmdDecode s)

/-- `FIELD[i]` as it is read: 0 where there is no such entry (R46, R47). -/
def State.fieldAt (s : State) (i : Nat) : Word :=
  if i < s.cfg.fieldCap then s.field.getD i 0#16 else 0#16

/-- `sint16(v)`, the two's-complement value (R10). -/
def sint16 (v : Word) : Int :=
  if v.msb then (v.toNat : Int) - 65536 else (v.toNat : Int)

/-- What an entry of FIELD is in READY (R175). -/
inductive FieldClass where
  | voltage | temperature | noField
  deriving DecidableEq, Repr

/-- The class of FIELD entry i of the reading (R175). -/
def State.fieldClass (s : State) (i : Nat) : FieldClass :=
  if i < s.rdVcount.toNat then .voltage
  else if i < s.rdVcount.toNat + s.rdTcount.toNat then .temperature
  else .noField

/-- The exponent k of field i: the latched VEXP for a voltage, the latched TEXP otherwise (R180). -/
def State.scaleExponent (s : State) (i : Nat) : Nat :=
  if i < s.rdVcount.toNat then s.rdVexp.toNat else s.rdTexp.toNat

/-- `Scaled(i)`: the exact rational sint16(FIELD[i]) / 10^k, given in READY for a field of the reading (R180).
The spec gives no value elsewhere, and neither does the model. -/
def State.scaled? (s : State) (i : Nat) : Option Rat :=
  if s.phase = .ready ∧ i < s.rdVcount.toNat + s.rdTcount.toNat then
    some ((sint16 (s.fieldAt i) : Rat) / (10 : Rat) ^ s.scaleExponent i)
  else none

end Sys2Proof.Machine
end

