-- ==== Sys2Proof/Machine/FrameDetector.lean ====
section
/-! DEFINITION. The frame boundary detector: the marker search and EXTRACT (40_frame_detector.md). -/

namespace Sys2Proof.Machine

open Sys2Proof

/-- SOF_MARKER = [0x1A, 0x85], first byte first in buffer order (R8). -/
def sofMarker : Byte × Byte := (0x1A#8, 0x85#8)

/-- EOF_MARKER = [0x22, 0xCE], first byte first in buffer order (R8). -/
def eofMarker : Byte × Byte := (0x22#8, 0xCE#8)

/-- `MatchAt(i, m)`: only bytes below IBUF_LEN take part (R120). -/
def State.matchAt (s : State) (m : Byte × Byte) (i : Nat) : Bool :=
  decide (i + 2 ≤ s.ibufLen.toNat) && (s.ibufByte i == m.1 && s.ibufByte (i + 1) == m.2)

/-- The least index i ≥ lo with `MatchAt(i, m)`, or none (R123, R124). -/
def State.findMarker (s : State) (m : Byte × Byte) (lo : Nat) : Option Nat :=
  (List.range' lo (s.ibufLen.toNat - lo)).find? (s.matchAt m)

/-- The body of EXTRACT (R121). -/
def extractBody (s : State) : StageResult :=
  let s := ((s.setCmdStatus .ok).clearResults).setPhase .extracting
  match s.findMarker sofMarker 0 with
  | none => .ended (s.raiseFailure .markerNotFoundSof)
  | some sof =>
    let s := s.holdSof sof
    match s.findMarker eofMarker (sof + 2) with
    | none => .ended (s.raiseFailure .markerNotFoundEof)
    | some eof => .goesOn (s.holdFrame eof (eof + 2 - sof))

/-- EXTRACT, legal in every STATE (R121). -/
def cmdExtract (s : State) : State := (extractBody s).state

/-- The meaning of EXTRACT. -/
def execExtract (s : State) : Host.Outcome State Fault Refusal := .next (cmdExtract s)

end Sys2Proof.Machine
end

