-- ==== Sys2Proof/Machine/Validator.lean ====
section
/-! DEFINITION. The CRC-16/CCITT validator: the checksum, VERIFY and CRC (41_crc_validator.md). -/

namespace Sys2Proof.Machine

open Sys2Proof

/-- The polynomial 0x1021 (R140). -/
def crcPoly : Word := 0x1021#16

/-- The initial register 0xFFFF (R140). -/
def crcInit : Word := 0xFFFF#16

/-- One shift of the MSB-first register (R141, R144). -/
def crcShift (c : Word) : Word :=
  if c.msb then (c <<< 1) ^^^ crcPoly else c <<< 1

/-- Eight shifts. -/
def crcShift8 (c : Word) : Word :=
  crcShift (crcShift (crcShift (crcShift (crcShift (crcShift (crcShift (crcShift c)))))))

/-- The table entry T[i], by the generator of R141: the byte in the top 8 bits, shifted 8 times. -/
def crcTable (i : Byte) : Word := crcShift8 (i.setWidth 16 <<< 8)

/-- One byte of the table-driven algorithm (R143). -/
def crcStep (crc : Word) (b : Byte) : Word :=
  (crc <<< 8) ^^^ crcTable (crc.extractLsb' 8 8 ^^^ b)

/-- `crc16(d)`, the normative form (R143). -/
def crc16 (d : List Byte) : Word := d.foldl crcStep crcInit

/-- One byte of the bitwise form (R144). -/
def crcStepBitwise (crc : Word) (b : Byte) : Word := crcShift8 (crc ^^^ (b.setWidth 16 <<< 8))

/-- `crc16_bitwise(d)`, the form that R144 says gives the same result. -/
def crc16Bitwise (d : List Byte) : Word := d.foldl crcStepBitwise crcInit

/-- `StripPayload(base, L)`: PAYLOAD_OFF and PAYLOAD_LEN (R146). -/
def State.stripPayload (s : State) (base len : Nat) : Nat × Nat :=
  let st := min s.hdrEnd.toNat len
  let e0 := if s.tailTrim.toNat ≤ len then len - s.tailTrim.toNat else 0
  let e := max st e0
  (base + st, e - st)

/-- The data that the CRC of a frame covers: frame bytes [2 .. L−4), header and payload (R147). -/
def State.crcData (s : State) : List Byte :=
  s.bufRange (s.sofIdx.toNat + 2) (s.sofIdx.toNat + s.frameLen.toNat - 4)

/-- The CRC field of a frame: frame bytes [L−4 .. L−2), big-endian (R147). -/
def State.crcField (s : State) : Word :=
  s.memRead2 (s.sofIdx.toNat + s.frameLen.toNat - 4)

/-- The body of VERIFY, from the line after its STATE check (R145). -/
def verifyBody (s : State) : StageResult :=
  let s := s.setCmdStatus .ok
  if s.frameLen.toNat < 6 then .ended (s.raiseFailure .frameTooShort)
  else
    let retrieved := s.crcField
    let computed := crc16 s.crcData
    let s := s.holdCrcs retrieved computed
    if computed ≠ retrieved then .ended (s.raiseFailure .crcMismatch)
    else
      let view := s.stripPayload s.sofIdx.toNat s.frameLen.toNat
      .goesOn (s.holdPayload view.1 view.2)

/-- VERIFY, legal in VERIFYING only (R145, R205). -/
def cmdVerify (s : State) : State :=
  if s.phase = .verifying then (verifyBody s).state else s.raiseCmdError .sequence

/-- CRC, legal in every STATE; the sum of the range check is exact (R160). -/
def cmdCrc (s : State) : State :=
  if s.ibufLen.toNat < s.crcArgStart.toNat + s.crcArgLen.toNat then s.raiseCmdError .range
  else
    { s.setCmdStatus .ok with
      crcResult := crc16 (s.bufRange s.crcArgStart.toNat (s.crcArgStart.toNat + s.crcArgLen.toNat)) }

/-- The meaning of VERIFY. -/
def execVerify (s : State) : Host.Outcome State Fault Refusal := .next (cmdVerify s)

/-- The meaning of CRC. -/
def execCrc (s : State) : Host.Outcome State Fault Refusal := .next (cmdCrc s)

end Sys2Proof.Machine
end

