-- ==== Sys2Proof/Machine/Control.lean ====
section
/-! DEFINITION. Pipeline control: NOP, CLEAR and CYCLE (43_pipeline_control.md). -/

namespace Sys2Proof.Machine

open Sys2Proof

/-- NOP (R200). -/
def cmdNop (s : State) : State := s.setCmdStatus .ok

/-- CLEAR (R201). -/
def cmdClear (s : State) : State := (s.setCmdStatus .ok).toIdle

/-- CYCLE: the three bodies in order; a failure in any stage ends it (R202). -/
def cmdCycle (s : State) : State :=
  (((extractBody (s.setCmdStatus .ok)).andThen verifyBody).andThen decodeBody).state

/-- The meaning of NOP. -/
def execNop (s : State) : Host.Outcome State Fault Refusal := .next (cmdNop s)

/-- The meaning of CLEAR. -/
def execClear (s : State) : Host.Outcome State Fault Refusal := .next (cmdClear s)

/-- The meaning of CYCLE. -/
def execCycle (s : State) : Host.Outcome State Fault Refusal := .next (cmdCycle s)

/-- A host write of v to CMD: decode v and run the command to completion; an illegal word only sets
CMD_STATUS = ILLEGAL (R73, R100, R103). -/
def runCommand (v : Word) (s : State) : State :=
  match decodeCommand v with
  | .ok .nop => cmdNop s
  | .ok .clear => cmdClear s
  | .ok .extract => cmdExtract s
  | .ok .verify => cmdVerify s
  | .ok .decode => cmdDecode s
  | .ok .cycle => cmdCycle s
  | .ok .crc => cmdCrc s
  | .rejected _ => s.raiseCmdError .illegal

end Sys2Proof.Machine
end

