-- ==== Sys2Proof/Machine/Flags.lean ====
section
/-! DEFINITION. The block has no condition-code flags (R50). What a host can test is in CMD_STATUS, STATE and ERR:
this file gives the codes those three registers read as. -/

namespace Sys2Proof.Machine

open Sys2Proof

/-- CMD_STATUS as a register: CODE in [1:0], [15:2] always 0 (R23). -/
def CmdStatus.code : CmdStatus → Word
  | .ok => 0#16
  | .illegal => 1#16
  | .sequence => 2#16
  | .range => 3#16

/-- STATE as a register: the state in [2:0], [15:3] always 0 (R24). -/
def Phase.code : Phase → Word
  | .idle => 0#16
  | .extracting => 1#16
  | .verifying => 2#16
  | .decoding => 3#16
  | .ready => 4#16
  | .failed => 5#16

/-- ERR as a register: the reason in [2:0], [15:3] always 0 (R25). -/
def Err.code : Err → Word
  | .none => 0#16
  | .markerNotFoundSof => 1#16
  | .markerNotFoundEof => 2#16
  | .frameTooShort => 3#16
  | .crcMismatch => 4#16
  | .payloadLengthMismatch => 5#16
  | .profileInvalid => 6#16

end Sys2Proof.Machine
end

