-- ==== Sys2Proof/Machine/Operands.lean ====
section
/-! DEFINITION. The register operand: the map of register numbers, and reading a register. -/

namespace Sys2Proof.Machine

open Sys2Proof

/-- The defined registers outside the FIELD window (R21). -/
inductive RegName where
  | cmd | cmdStatus | state | err
  | ibufLen | vcount | tcount | hdrEnd | tailTrim | scale
  | sofIdx | eofIdx | frameLen | crcRetrieved | crcComputed | payloadOff | payloadLen
  | rdVcount | rdTcount | rdScale
  | crcArgStart | crcArgLen | crcResult
  | capBuf | capField
  deriving DecidableEq, Repr

/-- Every row of the register map, in its order (R21). -/
def RegName.all : List RegName :=
  [.cmd, .cmdStatus, .state, .err,
   .ibufLen, .vcount, .tcount, .hdrEnd, .tailTrim, .scale,
   .sofIdx, .eofIdx, .frameLen, .crcRetrieved, .crcComputed, .payloadOff, .payloadLen] ++
  [.rdVcount, .rdTcount, .rdScale, .crcArgStart, .crcArgLen, .crcResult, .capBuf, .capField]

/-- The number column of the register map (R21). -/
def RegName.number : RegName → RegNum
  | .cmd => 0x00#8
  | .cmdStatus => 0x01#8
  | .state => 0x02#8
  | .err => 0x03#8
  | .ibufLen => 0x04#8
  | .vcount => 0x05#8
  | .tcount => 0x06#8
  | .hdrEnd => 0x07#8
  | .tailTrim => 0x08#8
  | .scale => 0x09#8
  | .sofIdx => 0x0A#8
  | .eofIdx => 0x0B#8
  | .frameLen => 0x0C#8
  | .crcRetrieved => 0x0D#8
  | .crcComputed => 0x0E#8
  | .payloadOff => 0x0F#8
  | .payloadLen => 0x10#8
  | .rdVcount => 0x11#8
  | .rdTcount => 0x12#8
  | .rdScale => 0x13#8
  | .crcArgStart => 0x14#8
  | .crcArgLen => 0x15#8
  | .crcResult => 0x16#8
  | .capBuf => 0x17#8
  | .capField => 0x18#8

/-- The access column of the register map (R21). -/
inductive Access where
  /-- W: host write-only. -/
  | writeOnly
  /-- R: host read-only, host writes are ignored. -/
  | readOnly
  /-- RW: host read-write. -/
  | readWrite
  deriving DecidableEq, Repr

/-- How the host may use a register (R21). -/
def RegName.access : RegName → Access
  | .cmd => .writeOnly
  | .ibufLen | .vcount | .tcount | .hdrEnd | .tailTrim | .scale | .crcArgStart | .crcArgLen => .readWrite
  | .cmdStatus | .state | .err | .sofIdx | .eofIdx | .frameLen | .crcRetrieved | .crcComputed | .payloadOff
  | .payloadLen | .rdVcount | .rdTcount | .rdScale | .crcResult | .capBuf | .capField => .readOnly

/-- The register that a number names, or none in the FIELD window and at a reserved number (R21). -/
def RegName.ofNumber (r : RegNum) : Option RegName :=
  RegName.all.find? fun n => n.number == r

/-- SCALE and RD_SCALE as registers: TEXP in [3:2], VEXP in [1:0], [15:4] always 0 (R31, R41). -/
def scaleWord (texp vexp : BitVec 2) : Word := 0#12 ++ texp ++ vexp

/-- The value of a defined register, with reserved bits 0; CMD reads 0 (R22, R71). -/
def State.readNamed (s : State) : RegName → Word
  | .cmd => 0#16
  | .cmdStatus => s.cmdStatus.code
  | .state => s.phase.code
  | .err => s.err.code
  | .ibufLen => s.ibufLen
  | .vcount => s.vcount
  | .tcount => s.tcount
  | .hdrEnd => s.hdrEnd
  | .tailTrim => s.tailTrim
  | .scale => scaleWord s.texp s.vexp
  | .sofIdx => s.sofIdx
  | .eofIdx => s.eofIdx
  | .frameLen => s.frameLen
  | .crcRetrieved => s.crcRetrieved
  | .crcComputed => s.crcComputed
  | .payloadOff => s.payloadOff
  | .payloadLen => s.payloadLen
  | .rdVcount => s.rdVcount
  | .rdTcount => s.rdTcount
  | .rdScale => scaleWord s.rdTexp s.rdVexp
  | .crcArgStart => s.crcArgStart
  | .crcArgLen => s.crcArgLen
  | .crcResult => s.crcResult
  | .capBuf => BitVec.ofNat 16 s.cfg.bufCap
  | .capField => BitVec.ofNat 16 s.cfg.fieldCap

/-- What a read of register number r returns: a defined register, an entry of the FIELD window 0x40 + i,
or 0 at a reserved number (R46, R47, R71). -/
def State.readReg (s : State) (r : RegNum) : Word :=
  match RegName.ofNumber r with
  | some n => s.readNamed n
  | none => if 0x40 ≤ r.toNat then s.fieldAt (r.toNat - 0x40) else 0#16

end Sys2Proof.Machine
end

