-- ==== Sys2Proof/Machine/HostPort.lean ====
section
/-! DEFINITION. The host port: the four host transactions, and how the next one is taken (20_memory.md). -/

namespace Sys2Proof.Machine

open Sys2Proof

/-- A host write to a defined register (R73). -/
def State.writeNamed (s : State) (v : Word) : RegName → State
  | .cmd => runCommand v s
  | .ibufLen => { s with ibufLen := index16 (min v.toNat s.cfg.bufCap) }.invalidate
  | .vcount => { s with vcount := v }
  | .tcount => { s with tcount := v }
  | .hdrEnd => { s with hdrEnd := v }
  | .tailTrim => { s with tailTrim := v }
  | .scale => { s with vexp := v.extractLsb' 0 2, texp := v.extractLsb' 2 2 }
  | .crcArgStart => { s with crcArgStart := v }
  | .crcArgLen => { s with crcArgLen := v }
  | .cmdStatus | .state | .err | .sofIdx | .eofIdx | .frameLen | .crcRetrieved | .crcComputed | .payloadOff
  | .payloadLen | .rdVcount | .rdTcount | .rdScale | .crcResult | .capBuf | .capField => s

/-- `RegWrite(r, v)`: the FIELD window and the reserved numbers ignore it (R73). -/
def State.writeReg (s : State) (r : RegNum) (v : Word) : State :=
  match RegName.ofNumber r with
  | some n => s.writeNamed v n
  | none => s

/-- `BufRead(a)`: IBUF[a], or 0x00 at or above BUF_CAP (R72). -/
def State.readBuf (s : State) (a : BufIdx) : Byte :=
  if a.toNat < s.cfg.bufCap then s.ibufByte a.toNat else 0x00#8

/-- `BufWrite(a, b)`: the byte, then the invalidation; ignored at or above BUF_CAP (R72). -/
def State.writeBuf (s : State) (a : BufIdx) (b : Byte) : State :=
  if a.toNat < s.cfg.bufCap then { s with ibuf := Memory.set s.ibuf a.toNat b }.invalidate else s

/-- The meaning of RegRead: no side effect but the value returned (R71). -/
def execRegRead (r : RegNum) (s : State) : Host.Outcome State Fault Refusal :=
  .next { s with reply := .reg (s.readReg r) }

/-- The meaning of RegWrite (R73). -/
def execRegWrite (r : RegNum) (v : Word) (s : State) : Host.Outcome State Fault Refusal :=
  .next (s.writeReg r v)

/-- The meaning of BufRead: no side effect but the value returned (R72). -/
def execBufRead (a : BufIdx) (s : State) : Host.Outcome State Fault Refusal :=
  .next { s with reply := .byte (s.readBuf a) }

/-- The meaning of BufWrite (R72). -/
def execBufWrite (a : BufIdx) (b : Byte) (s : State) : Host.Outcome State Fault Refusal :=
  .next (s.writeBuf a b)

/-- The block takes an event off the port: the events behind it stay, and the last transaction's result is gone. -/
def State.take (s : State) (rest : List PortEvent) : State := { s with port := rest, reply := .nothing }

/-- The reset event: every register at its reset value, IBUF a fresh draw, the configuration and what the outside
world does next as they were (R250, R251). -/
def State.resetInput (s : State) (rest : List PortEvent) : State :=
  { State.resetWith s.cfg (s.draw + 1) with port := rest }

/-- What the port does with a word that decodes to no instruction: an illegal command word only sets
CMD_STATUS = ILLEGAL (R103); an HT32 word that names no transaction cannot be issued (R106). -/
def undecoded (w : HostWord) (s : State) : Host.Outcome State Fault Refusal :=
  match w with
  | .cmd16 _ => .next (s.raiseCmdError .illegal)
  | .ht32 _ => .refused .noTransaction

end Sys2Proof.Machine
end

