-- ==== Sys2Proof/Machine/Dispatch.lean ====
section
/-! DEFINITION. Which meaning each instruction has. -/

namespace Sys2Proof.Machine

open Sys2Proof

def exec (i : Instr) (s : State) : Host.Outcome State Fault Refusal :=
  match i with
  | .nop => Sys2Proof.Machine.execNop s
  | .clear => Sys2Proof.Machine.execClear s
  | .extract => Sys2Proof.Machine.execExtract s
  | .verify => Sys2Proof.Machine.execVerify s
  | .decode => Sys2Proof.Machine.execDecode s
  | .cycle => Sys2Proof.Machine.execCycle s
  | .crc => Sys2Proof.Machine.execCrc s
  | .regRead r => Sys2Proof.Machine.execRegRead r s
  | .regWrite r v => Sys2Proof.Machine.execRegWrite r v s
  | .bufRead a => Sys2Proof.Machine.execBufRead a s
  | .bufWrite a b => Sys2Proof.Machine.execBufWrite a b s

end Sys2Proof.Machine
end

