-- ==== Sys2Proof/Machine/Step.lean ====
section
/-! DEFINITION. One step: the block takes the next event off its port and does the whole of it. -/

namespace Sys2Proof.Machine

open Sys2Proof

/-- One step. With nothing on the port the block does nothing (R5, R238); otherwise it performs the oldest event
whole (R78, R82). A second host is refused (R259). -/
def step (s : State) : Host.Outcome State Fault Refusal :=
  match s.port with
  | [] => .next s
  | .resetInput :: rest => .next (s.resetInput rest)
  | .secondHost _ :: _ => .refused .secondHost
  | .request w :: rest =>
    match decode w with
    | .ok i => exec i (s.take rest)
    | .rejected _ => undecoded w (s.take rest)

/-- The host issues the instruction of a table row's word as the next transaction (log entry 4). -/
def State.withFetchWord (s : State) (nbits w : Nat) : State :=
  { s with port := .request (tableWord nbits w) :: s.port }

end Sys2Proof.Machine
end

