-- ==== Sys2Proof/Machine/Script.lean ====
section
/-! DEFINITION. The host-script syntax and its pseudo-instructions (R107, R108): notation for sequences of host
transactions, which no rule of the hardware depends on. -/

namespace Sys2Proof.Machine

open Sys2Proof

/-- A register's name in a script line (R21, R107). -/
def RegName.text : RegName → String
  | .cmd => "CMD"
  | .cmdStatus => "CMD_STATUS"
  | .state => "STATE"
  | .err => "ERR"
  | .ibufLen => "IBUF_LEN"
  | .vcount => "VCOUNT"
  | .tcount => "TCOUNT"
  | .hdrEnd => "HDR_END"
  | .tailTrim => "TAIL_TRIM"
  | .scale => "SCALE"
  | .sofIdx => "SOF_IDX"
  | .eofIdx => "EOF_IDX"
  | .frameLen => "FRAME_LEN"
  | .crcRetrieved => "CRC_RETRIEVED"
  | .crcComputed => "CRC_COMPUTED"
  | .payloadOff => "PAYLOAD_OFF"
  | .payloadLen => "PAYLOAD_LEN"
  | .rdVcount => "RD_VCOUNT"
  | .rdTcount => "RD_TCOUNT"
  | .rdScale => "RD_SCALE"
  | .crcArgStart => "CRC_ARG_START"
  | .crcArgLen => "CRC_ARG_LEN"
  | .crcResult => "CRC_RESULT"
  | .capBuf => "CAP_BUF"
  | .capField => "CAP_FIELD"

/-- A line of a host script: the five transaction forms of R107 and the pseudo-instructions of R108. -/
inductive ScriptLine where
  /-- `rd REG` -/
  | rd (r : RegNum)
  /-- `wr REG, v` -/
  | wr (r : RegNum) (v : Word)
  /-- `rdb a` -/
  | rdb (a : BufIdx)
  /-- `wrb a, b` -/
  | wrb (a : BufIdx) (b : Byte)
  /-- `rdf i` -/
  | rdf (i : RegNum)
  /-- `nop` / `clear` / `extract` / `verify` / `decode` / `cycle` / `crc` -/
  | command (c : Command)
  /-- `load a: b0 b1 … bk` -/
  | load (a : Nat) (bytes : List Byte)
  /-- `setbuf b0 … b(n−1)` -/
  | setbuf (bytes : List Byte)
  /-- `profile N, M, H, T, ve, te` -/
  | profile (n m h t : Word) (ve te : BitVec 2)
  /-- `crcrange a, n` -/
  | crcrange (a n : Word)
  deriving DecidableEq, Repr

/-- The line is within the ranges its expansion can hold: a FIELD number, buffer indices, a byte count. -/
def ScriptLine.wellFormed : ScriptLine → Bool
  | .rdf i => decide (i.toNat < 192)
  | .load a bytes => decide (a + bytes.length ≤ 65536)
  | .setbuf bytes => decide (bytes.length ≤ 65535)
  | .rd _ | .wr _ _ | .rdb _ | .wrb _ _ | .command _ | .profile _ _ _ _ _ _ | .crcrange _ _ => true

/-- `load a: b0 … bk`: one `wrb` a byte, ascending (R108). -/
def expandLoad (a : Nat) : List Byte → List Instr
  | [] => []
  | b :: bs => .bufWrite (BitVec.ofNat 16 a) b :: expandLoad (a + 1) bs

/-- The transactions that a line is, in their order (R107, R108). -/
def ScriptLine.expand : ScriptLine → List Instr
  | .rd r => [.regRead r]
  | .wr r v => [.regWrite r v]
  | .rdb a => [.bufRead a]
  | .wrb a b => [.bufWrite a b]
  | .rdf i => [.regRead (0x40#8 + i)]
  | .command c => [.regWrite RegName.cmd.number c.word]
  | .load a bytes => expandLoad a bytes
  | .setbuf bytes => expandLoad 0 bytes ++ [.regWrite RegName.ibufLen.number (BitVec.ofNat 16 bytes.length)]
  | .profile n m h t ve te =>
    [.regWrite RegName.vcount.number n, .regWrite RegName.tcount.number m, .regWrite RegName.hdrEnd.number h,
     .regWrite RegName.tailTrim.number t, .regWrite RegName.scale.number (scaleWord te ve)]
  | .crcrange a n =>
    [.regWrite RegName.crcArgStart.number a, .regWrite RegName.crcArgLen.number n,
     .regWrite RegName.cmd.number Command.crc.word]

/-- A script as the events the one host puts on the port. -/
def scriptEvents (lines : List ScriptLine) : List PortEvent :=
  (lines.flatMap ScriptLine.expand).map fun i => .request (encode i)

/-- The words of one line of text: what stands before `;`, split at blanks, commas and colons.
PRESUMED (log entry 9): R107 shows the separators and does not define them further. -/
def scriptWords (line : List Char) : List (List Char) :=
  let code := line.takeWhile (· != ';')
  let split := code.foldr
    (fun c acc =>
      if c = ' ' ∨ c = '\t' ∨ c = ',' ∨ c = ':' then [] :: acc
      else match acc with
        | [] => [[c]]
        | w :: ws => (c :: w) :: ws)
    [[]]
  split.filter (· != [])

/-- The value of a digit below `base`. -/
def digit? (base : Nat) (c : Char) : Option Nat :=
  let n := c.toNat
  let v := if 48 ≤ n ∧ n ≤ 57 then n - 48
    else if 65 ≤ n ∧ n ≤ 70 then n - 55
    else if 97 ≤ n ∧ n ≤ 102 then n - 87
    else base
  if v < base then some v else none

/-- A nonempty run of digits. -/
def digits? (base : Nat) (ds : List Char) : Option Nat :=
  if ds = [] then none
  else ds.foldl (fun acc c => do let n ← acc; let d ← digit? base c; pure (n * base + d)) (some 0)

/-- A number: decimal, or hex with `0x` (R107). -/
def number? : List Char → Option Nat
  | '0' :: 'x' :: ds => digits? 16 ds
  | ds => digits? 10 ds

/-- A number that fits in `w` bits. -/
def operand? (w : Nat) (t : List Char) : Option (BitVec w) := do
  let n ← number? t
  if n < 2 ^ w then some (BitVec.ofNat w n) else none

/-- A byte of `load` or `setbuf`: hex digits.
DEDUCED (log entry 9) from 95_test_vectors.md, "Bytes are hex", and from the bytes its programs load. -/
def byteText? (t : List Char) : Option Byte := do
  let n ← digits? 16 t
  if n < 256 then some (BitVec.ofNat 8 n) else none

/-- A register operand: a name of R21, or a number (R107). -/
def register? (t : List Char) : Option RegNum :=
  match RegName.all.find? fun n => n.text == String.ofList t with
  | some n => some n.number
  | none => operand? 8 t

/-- The pseudo-instruction words that stand for one command each (R108). -/
def command? (w : String) : Option Command :=
  if w = "nop" then some .nop
  else if w = "clear" then some .clear
  else if w = "extract" then some .extract
  else if w = "verify" then some .verify
  else if w = "decode" then some .decode
  else if w = "cycle" then some .cycle
  else if w = "crc" then some .crc
  else none

/-- The line that an opening word and its operands are, or none (R107, R108). -/
def scriptLine? (w : String) (args : List (List Char)) : Option ScriptLine :=
  match args with
  | [] => (command? w).map ScriptLine.command
  | [x] =>
    if w = "rd" then (register? x).map ScriptLine.rd
    else if w = "rdb" then (operand? 16 x).map ScriptLine.rdb
    else if w = "rdf" then (operand? 8 x).map ScriptLine.rdf
    else none
  | [x, y] =>
    if w = "wr" then do pure (.wr (← register? x) (← operand? 16 y))
    else if w = "wrb" then do pure (.wrb (← operand? 16 x) (← operand? 8 y))
    else if w = "crcrange" then do pure (.crcrange (← operand? 16 x) (← operand? 16 y))
    else none
  | [n, m, h, t, ve, te] =>
    if w = "profile" then do
      pure (.profile (← operand? 16 n) (← operand? 16 m) (← operand? 16 h) (← operand? 16 t) (← operand? 2 ve)
        (← operand? 2 te))
    else none
  | _ => none

/-- Read one line of a host script; a blank or comment line is no transaction (R107, R108). -/
def parseLine (line : List Char) : Option (List ScriptLine) :=
  match scriptWords line with
  | [] => some []
  | w :: args =>
    let word := String.ofList w
    let read : Option ScriptLine :=
      if word = "setbuf" then (args.mapM byteText?).map ScriptLine.setbuf
      else if word = "load" then
        match args with
        | a :: bytes => do pure (.load (← number? a) (← bytes.mapM byteText?))
        | [] => none
      else scriptLine? word args
    match read with
    | some l => if l.wellFormed then some [l] else none
    | none => none

end Sys2Proof.Machine
end

