-- ==== Sys2Proof/Machine/Profiles.lean ====
section
/-! DEFINITION. The device profiles that a host programs, and its per-cycle protocol (R9, R14, R151, R252, R253).
The block knows no variant: a profile is a setting of its registers. -/

namespace Sys2Proof.Machine

open Sys2Proof

/-- The values a host writes for a device (R9). -/
structure Profile where
  vcount : Word
  tcount : Word
  hdrEnd : Word
  tailTrim : Word
  vexp : BitVec 2
  texp : BitVec 2
  deriving DecidableEq, Repr

/-- The open profile parameter P24_SLICE (R151). -/
inductive P24Slice where
  /-- The slice is the sibling's frame[5 .. len−4]. -/
  | std
  /-- `eof` is the frame-relative EOF index, so the slice ends at L − 6. -/
  | eofRel
  /-- Only SOF is stripped. -/
  | noHdr
  deriving DecidableEq, Repr

/-- HDR_END and TAIL_TRIM under each reading of the 24-cell slice (R151). -/
def P24Slice.registers : P24Slice → Word × Word
  | .std => (5#16, 4#16)
  | .eofRel => (5#16, 6#16)
  | .noHdr => (2#16, 4#16)

/-- The frame length that a 24/4 frame of 56 payload bytes has under each reading (R6, R151). -/
def P24Slice.frameLen : P24Slice → Nat
  | .std => 65
  | .eofRel => 67
  | .noHdr => 62

/-- What a raw voltage is, the open half of P12_SCALE and P24_SCALE (R181). -/
inductive VoltageUnit where
  | millivolt | unscaledAsVolts
  deriving DecidableEq, Repr

/-- What a raw temperature is, the other open half (R181). -/
inductive TemperatureUnit where
  | deciDegree | wholeDegree
  deriving DecidableEq, Repr

/-- The voltage exponent of each unit (R181). -/
def VoltageUnit.exponent : VoltageUnit → BitVec 2
  | .millivolt => 3#2
  | .unscaledAsVolts => 0#2

/-- The temperature exponent of each unit (R181). -/
def TemperatureUnit.exponent : TemperatureUnit → BitVec 2
  | .deciDegree => 1#2
  | .wholeDegree => 0#2

/-- P12, the 12-cell unit: 12 voltages and 4 temperatures (R14, 92_eei_decisions.md profile table). -/
def Profile.p12 (v : VoltageUnit) (t : TemperatureUnit) : Profile :=
  { vcount := 12#16, tcount := 4#16, hdrEnd := 5#16, tailTrim := 4#16, vexp := v.exponent, texp := t.exponent }

/-- P24, the 24-cell unit: 24 voltages and 4 temperatures (R14, R151). -/
def Profile.p24 (slice : P24Slice) (v : VoltageUnit) (t : TemperatureUnit) : Profile :=
  { vcount := 24#16, tcount := 4#16, hdrEnd := slice.registers.1, tailTrim := slice.registers.2,
    vexp := v.exponent, texp := t.exponent }

/-- The register writes that program a profile (R108, R252). -/
def Profile.line (p : Profile) : ScriptLine :=
  .profile p.vcount p.tcount p.hdrEnd p.tailTrim p.vexp p.texp

/-- The registers of a state hold a profile. -/
def State.holdsProfile (s : State) (p : Profile) : Bool :=
  s.vcount == p.vcount && s.tcount == p.tcount && s.hdrEnd == p.hdrEnd && s.tailTrim == p.tailTrim &&
  s.vexp == p.vexp && s.texp == p.texp

/-- One polling cycle: load the received bytes, then CYCLE (R253 items 1 and 2). -/
def pollCycle (bytes : List Byte) : List ScriptLine := [.setbuf bytes, .command .cycle]

/-- The cycle has ended: STATE is READY or FAILED (R254). -/
def State.cycleEnded (s : State) : Bool := s.phase == .ready || s.phase == .failed

/-- The frame that a device sends for some data: SOF, data, big-endian CRC, EOF (R13, R147). -/
def wireFrame (data : List Byte) : List Byte :=
  [sofMarker.1, sofMarker.2] ++ data ++ be16 (crc16 data) ++ [eofMarker.1, eofMarker.2]

end Sys2Proof.Machine
end

