-- ==== Sys2Proof/Machine/System.lean ====
section
/-! DEFINITION. Several instances of the block, which share no state (R87, R236). -/

namespace Sys2Proof.Machine

open Sys2Proof

/-- The instances of the block, each with its own state and its own host's port. -/
abbrev System := List State

/-- Instance k takes its next event. -/
def stepInstance (sys : System) (k : Fin sys.length) : Host.Outcome System Fault Refusal :=
  match step (sys.get k) with
  | .next t => .next (sys.set k t)
  | .fault r => .fault r
  | .refused r => .refused r

end Sys2Proof.Machine
end

