-- ==== Sys2Proof/Safety.lean ====
section
/-! DEFINITION. The terms that claims use: what a marker match is, what a state holds between transactions (R52, R223),
and what a run is. -/

namespace Sys2Proof.Machine

open Sys2Proof

/-- `MatchAt(i, [m0, m1])` in bytes (R120). -/
def State.MarkerAt (s : State) (m0 m1 : Byte) (i : Nat) : Prop :=
  i + 2 ≤ s.ibufLen.toNat ∧ s.ibufByte i = m0 ∧ s.ibufByte (i + 1) = m1

/-- i is the least index at or above lo where the marker stands (R123, R124). -/
def State.FirstMarker (s : State) (m0 m1 : Byte) (lo i : Nat) : Prop :=
  lo ≤ i ∧ s.MarkerAt m0 m1 i ∧ ∀ j, lo ≤ j → j < i → ¬ s.MarkerAt m0 m1 j

/-- The first bytes of IBUF are these, and IBUF_LEN is their count. -/
def State.Loaded (s : State) (bytes : List Byte) : Prop :=
  s.ibufLen.toNat = bytes.length ∧ ∀ k (h : k < bytes.length), s.ibufByte k = bytes[k]

/-- No two neighbouring bytes are `22 CE` (C6). -/
def NoEofInside (bytes : List Byte) : Prop :=
  ∀ k (h : k + 1 < bytes.length), ¬ (bytes[k] = 0x22#8 ∧ bytes[k + 1] = 0xCE#8)

/-- The registers of the reading, and every FIELD entry, are 0. -/
abbrev State.ReadingCleared (s : State) : Prop :=
  s.rdVcount = 0#16 ∧ s.rdTcount = 0#16 ∧ s.rdVexp = 0#2 ∧ s.rdTexp = 0#2 ∧
  s.field = List.replicate s.cfg.fieldCap 0#16

/-- EOF_IDX and FRAME_LEN are 0. -/
abbrev State.FrameCleared (s : State) : Prop := s.eofIdx = 0#16 ∧ s.frameLen = 0#16

/-- CRC_RETRIEVED and CRC_COMPUTED are 0. -/
abbrev State.CrcsCleared (s : State) : Prop := s.crcRetrieved = 0#16 ∧ s.crcComputed = 0#16

/-- PAYLOAD_OFF and PAYLOAD_LEN are 0. -/
abbrev State.PayloadCleared (s : State) : Prop := s.payloadOff = 0#16 ∧ s.payloadLen = 0#16

/-- Every register of the result group is 0 (R49). -/
abbrev State.ResultsCleared (s : State) : Prop :=
  s.err = .none ∧ s.sofIdx = 0#16 ∧ s.FrameCleared ∧ s.CrcsCleared ∧ s.PayloadCleared ∧ s.ReadingCleared

/-- SOF_IDX, EOF_IDX and FRAME_LEN are those of a frame that ends within `bound` (R52 item 3). -/
abbrev State.FrameWithin (s : State) (bound : Nat) : Prop :=
  s.sofIdx.toNat + 2 ≤ s.eofIdx.toNat ∧
  s.frameLen.toNat = s.eofIdx.toNat + 2 - s.sofIdx.toNat ∧
  s.eofIdx.toNat + 2 ≤ bound

/-- Both markers stand in IBUF where SOF_IDX and EOF_IDX say (R52 item 3). -/
abbrev State.MarkersStand (s : State) : Prop :=
  s.ibufByte s.sofIdx.toNat = 0x1A#8 ∧ s.ibufByte (s.sofIdx.toNat + 1) = 0x85#8 ∧
  s.ibufByte s.eofIdx.toNat = 0x22#8 ∧ s.ibufByte (s.eofIdx.toNat + 1) = 0xCE#8

/-- The CRCs agree and the payload view lies in the frame (R52 item 4). -/
abbrev State.PayloadHeld (s : State) : Prop :=
  s.crcRetrieved = s.crcComputed ∧ 6 ≤ s.frameLen.toNat ∧
  s.sofIdx.toNat ≤ s.payloadOff.toNat ∧
  s.payloadOff.toNat + s.payloadLen.toNat ≤ s.sofIdx.toNat + s.frameLen.toNat

/-- Every register, every FIELD entry and the two constants at their reset values (R21, R250). -/
abbrev State.AtResetValues (t : State) : Prop :=
  t.cmdStatus = .ok ∧ t.phase = .idle ∧ t.err = .none ∧
  t.ibufLen = 0#16 ∧ t.vcount = 0#16 ∧ t.tcount = 0#16 ∧ t.hdrEnd = 5#16 ∧ t.tailTrim = 4#16 ∧
  t.readReg 0x09#8 = 0x0007#16 ∧ t.vexp = 3#2 ∧ t.texp = 1#2 ∧
  t.sofIdx = 0#16 ∧ t.eofIdx = 0#16 ∧ t.frameLen = 0#16 ∧ t.crcRetrieved = 0#16 ∧ t.crcComputed = 0#16 ∧
  t.payloadOff = 0#16 ∧ t.payloadLen = 0#16 ∧ t.rdVcount = 0#16 ∧ t.rdTcount = 0#16 ∧
  t.rdVexp = 0#2 ∧ t.rdTexp = 0#2 ∧
  t.crcArgStart = 0#16 ∧ t.crcArgLen = 0#16 ∧ t.crcResult = 0#16 ∧
  (∀ i, t.fieldAt i = 0#16) ∧
  t.readReg 0x17#8 = BitVec.ofNat 16 t.cfg.bufCap ∧ t.readReg 0x18#8 = BitVec.ofNat 16 t.cfg.fieldCap

/-- What holds at every point between host transactions: R52, with the rows of R223 for FAILED, and with what the
model's own representation needs (the canonical memory, the length of the field file).
R52 item 3 is taken as DEDUCED in log entry 6: in READY the frame ends within BUF_CAP, not within IBUF_LEN. -/
structure State.Inv (s : State) : Prop where
  /-- The capacities are legal (R6, R7). -/
  cfg : s.cfg.wellFormed = true
  /-- IBUF's list is canonical. -/
  memory : Memory.wf s.ibuf = true
  /-- IBUF's list has no address at or above BUF_CAP (R48). -/
  memoryBelow : Memory.below s.ibuf s.cfg.bufCap = true
  /-- The field file has FIELD_CAP entries (R47). -/
  fieldLength : s.field.length = s.cfg.fieldCap
  /-- IBUF_LEN is at most BUF_CAP (R26). -/
  ibufLen : s.ibufLen.toNat ≤ s.cfg.bufCap
  /-- R52 item 1. -/
  atRest : s.phase ≠ .extracting
  /-- R52 item 2. -/
  failedIff : s.phase = .failed ↔ s.err ≠ .none
  /-- R52 item 3, while a view is held. -/
  frameView : s.phase = .verifying ∨ s.phase = .decoding → s.FrameWithin s.ibufLen.toNat ∧ s.MarkersStand
  /-- R52 item 3, in READY. -/
  frameReady : s.phase = .ready → s.FrameWithin s.cfg.bufCap
  /-- R52 item 4. -/
  payload : s.phase = .decoding ∨ s.phase = .ready → s.PayloadHeld
  /-- While the payload view is held, its CRCs are those of the bytes in IBUF (R51, R74, R145). -/
  verified : s.phase = .decoding → s.crcRetrieved = s.crcField ∧ s.crcComputed = crc16 s.crcData
  /-- R52 item 5. -/
  reading : s.phase = .ready →
    s.payloadLen.toNat = 2 * (s.rdVcount.toNat + s.rdTcount.toNat) ∧
    s.rdVcount.toNat + s.rdTcount.toNat ≤ s.cfg.fieldCap
  /-- FIELD entries past the reading are 0 (R47). -/
  unusedFields : ∀ v ∈ s.field.drop (s.rdVcount.toNat + s.rdTcount.toNat), v = 0#16
  /-- R52 item 6. -/
  noReading : s.phase ≠ .ready → s.ReadingCleared
  /-- R52 item 7. -/
  bounds : s.sofIdx.toNat ≤ s.cfg.bufCap ∧ s.eofIdx.toNat ≤ s.cfg.bufCap ∧ s.payloadOff.toNat ≤ s.cfg.bufCap ∧
    s.frameLen.toNat ≤ s.cfg.bufCap ∧ s.payloadLen.toNat ≤ s.cfg.bufCap
  /-- R52 item 8. -/
  idle : s.phase = .idle → s.ResultsCleared
  /-- VERIFYING holds no CRC and no payload view yet (R121, R49). -/
  fresh : s.phase = .verifying → s.CrcsCleared ∧ s.PayloadCleared
  /-- R223, ERR 1. -/
  noSof : s.err = .markerNotFoundSof → s.sofIdx = 0#16 ∧ s.FrameCleared ∧ s.CrcsCleared ∧ s.PayloadCleared
  /-- R223, ERR 2. -/
  noEof : s.err = .markerNotFoundEof → s.FrameCleared ∧ s.CrcsCleared ∧ s.PayloadCleared
  /-- R223, ERR 3. -/
  tooShort : s.err = .frameTooShort →
    s.FrameWithin s.cfg.bufCap ∧ (s.frameLen = 4#16 ∨ s.frameLen = 5#16) ∧ s.CrcsCleared ∧ s.PayloadCleared
  /-- R223, ERR 4. -/
  mismatch : s.err = .crcMismatch →
    s.FrameWithin s.cfg.bufCap ∧ s.crcRetrieved ≠ s.crcComputed ∧ s.PayloadCleared
  /-- R223, ERR 5 and 6. -/
  decodeFailed : s.err = .payloadLengthMismatch ∨ s.err = .profileInvalid →
    s.FrameWithin s.cfg.bufCap ∧ s.PayloadHeld

/-- R52 item 3 word for word: the frame's registers and markers in VERIFYING, DECODING and READY, where the marker
bytes alone may differ in READY. Log entry 6 says why no run keeps it. -/
def State.FrameItemAsWritten (s : State) : Prop :=
  (s.phase = .verifying ∨ s.phase = .decoding ∨ s.phase = .ready → s.FrameWithin s.ibufLen.toNat) ∧
  (s.phase = .verifying ∨ s.phase = .decoding → s.MarkersStand)

/-- The registers that the engine leaves alone in every command: IBUF and its free contents, the configuration, the
input and profile registers, the arguments of CRC, and the port (R11, R44, R102). -/
def State.SameInputs (s t : State) : Prop :=
  t.cfg = s.cfg ∧ t.ibuf = s.ibuf ∧ t.draw = s.draw ∧ t.ibufLen = s.ibufLen ∧ t.vcount = s.vcount ∧
  t.tcount = s.tcount ∧ t.hdrEnd = s.hdrEnd ∧ t.tailTrim = s.tailTrim ∧ t.vexp = s.vexp ∧ t.texp = s.texp ∧
  t.crcArgStart = s.crcArgStart ∧ t.crcArgLen = s.crcArgLen ∧ t.port = s.port ∧ t.reply = s.reply

/-- The result group and STATE, in two states (R49). -/
def State.SameResults (s t : State) : Prop :=
  t.phase = s.phase ∧ t.err = s.err ∧ t.sofIdx = s.sofIdx ∧ t.eofIdx = s.eofIdx ∧ t.frameLen = s.frameLen ∧
  t.crcRetrieved = s.crcRetrieved ∧ t.crcComputed = s.crcComputed ∧ t.payloadOff = s.payloadOff ∧
  t.payloadLen = s.payloadLen ∧ t.rdVcount = s.rdVcount ∧ t.rdTcount = s.rdTcount ∧ t.rdVexp = s.rdVexp ∧
  t.rdTexp = s.rdTexp ∧ t.field = s.field

/-- Transactions put on the port by the one host, in order (R82). -/
def hostEvents (is : List Instr) : List PortEvent := is.map fun i => .request (encode i)

/-- A run of k steps ends in t: no step of it was a fault or a refusal. -/
def RunsTo (k : Nat) (s t : State) : Prop := Host.Core.run Sys2Proof.core k s = .next t

end Sys2Proof.Machine
end

