-- ==== Sys2Proof/Certificates/Slice0/Obligations.lean ====
section
/-! DEFINITION. The statements for the provers. Each says what the spec's rule, or a rule of the whole machine, says. -/

open Sys2Proof Sys2Proof.Machine

/-! ### Encoding -/

/-- Decoding the word of any instruction gives the instruction back, with every operand at every value (R100, R101,
R106). -/
def Obligations.DecodeOfEncode : Prop :=
  ∀ i : Instr, decode (encode i) = .ok i

/-- Each word has one meaning: a word that decodes to an instruction is that instruction's word. -/
def Obligations.EncodeOfDecode : Prop :=
  ∀ (w : HostWord) (i : Instr), decode w = .ok i → encode i = w

/-- Which words decode to which instruction is what match and mask of the opcode table say, row by row. -/
def Obligations.DecodeFollowsTheOpcodeTable : Prop :=
  (∀ v : Word,
    (decode (.cmd16 v) = .ok .nop ↔ v &&& 0xFFFF#16 = 0x0000#16) ∧
    (decode (.cmd16 v) = .ok .clear ↔ v &&& 0xFFFF#16 = 0x0001#16) ∧
    (decode (.cmd16 v) = .ok .extract ↔ v &&& 0xFFFF#16 = 0x0002#16) ∧
    (decode (.cmd16 v) = .ok .verify ↔ v &&& 0xFFFF#16 = 0x0003#16) ∧
    (decode (.cmd16 v) = .ok .decode ↔ v &&& 0xFFFF#16 = 0x0004#16) ∧
    (decode (.cmd16 v) = .ok .cycle ↔ v &&& 0xFFFF#16 = 0x0005#16) ∧
    (decode (.cmd16 v) = .ok .crc ↔ v &&& 0xFFFF#16 = 0x0006#16)) ∧
  ∀ w : BitVec 32,
    ((∃ r, decode (.ht32 w) = .ok (.regRead r)) ↔ w &&& 0xFF00FFFF#32 = 0x00000000#32) ∧
    ((∃ r v, decode (.ht32 w) = .ok (.regWrite r v)) ↔ w &&& 0xFF000000#32 = 0x40000000#32) ∧
    ((∃ a, decode (.ht32 w) = .ok (.bufRead a)) ↔ w &&& 0xFF0000FF#32 = 0x80000000#32) ∧
    ((∃ a b, decode (.ht32 w) = .ok (.bufWrite a b)) ↔ w &&& 0xFF000000#32 = 0xC0000000#32)

/-- Words written out from the spec's encodings decode to the instructions they stand for (R101, R106, and the traces
of 95_test_vectors.md). -/
def Obligations.SpecWordsDecode : Prop :=
  decodeTableWord 16 0x0000 = some .nop ∧
  decodeTableWord 16 0x0003 = some .verify ∧
  decodeTableWord 16 0x0006 = some .crc ∧
  decodeTableWord 16 0x0007 = none ∧
  decodeTableWord 16 0x0012 = none ∧
  decodeTableWord 32 0x000A0000 = some (.regRead 0x0A#8) ∧
  decodeTableWord 32 0x40000005 = some (.regWrite 0x00#8 0x0005#16) ∧
  decodeTableWord 32 0x4005000C = some (.regWrite 0x05#8 0x000C#16) ∧
  decodeTableWord 32 0x80012300 = some (.bufRead 0x0123#16) ∧
  decodeTableWord 32 0xC0000185 = some (.bufWrite 0x0001#16 0x85#8) ∧
  decodeTableWord 32 0x41000005 = none ∧
  decodeTableWord 32 0x00010001 = none

/-! ### The step -/

/-- A step performs the oldest transaction on the port: it takes the transaction off and is exec of its instruction.
The port and the reply are the model's own fields (log entry 3). -/
def Obligations.StepRunsTheDecodedInstruction : Prop :=
  ∀ (s : State) (w : HostWord) (rest : List PortEvent) (i : Instr),
    s.port = .request w :: rest → decode w = .ok i →
    step s = exec i { s with port := rest, reply := .nothing }

/-- The word of a table row put on the port is the next instruction to run. withFetchWord is the model's (log entry
4). -/
def Obligations.FetchWordIsTheNextInstruction : Prop :=
  ∀ (s : State) (nbits w : Nat) (i : Instr), decodeTableWord nbits w = some i →
    step (s.withFetchWord nbits w) = exec i { s with reply := .nothing }

/-- With nothing on the port, a step changes nothing (R238: between host transactions the block does nothing). The
port is the model's own field (log entry 3). -/
def Obligations.IdlePortChangesNothing : Prop :=
  ∀ s : State, s.port = [] → step s = .next s

/-- A second host is refused (R259). That its transaction is an event on the port is the model's choice (log entry
8). -/
def Obligations.SecondHostIsRefused : Prop :=
  ∀ (s : State) (w : HostWord) (rest : List PortEvent),
    s.port = .secondHost w :: rest → step s = .refused .secondHost

/-- An illegal command word sets CMD_STATUS = ILLEGAL and changes nothing else (R103), written to CMD or taken off
the port. -/
def Obligations.IllegalCommandWordOnlySetsIllegal : Prop :=
  ∀ (v : Word) (s : State), v.extractLsb' 4 12 ≠ 0#12 ∨ 0x7 ≤ (v.extractLsb' 0 4).toNat →
    exec (.regWrite 0x00#8 v) s = .next { s with cmdStatus := .illegal } ∧
    ∀ rest, step { s with port := .request (.cmd16 v) :: rest } =
      .next { s with port := rest, reply := .nothing, cmdStatus := .illegal }

/-- An HT32 word that names no transaction is refused by that name (R106). The refusal is the model's (log entry 4). -/
def Obligations.WordThatNamesNoTransactionIsRefused : Prop :=
  ∀ (w : BitVec 32) (s : State) (rest : List PortEvent), (HostWord.ht32 w).wellFormed = false →
    step { s with port := .request (.ht32 w) :: rest } = .refused .noTransaction

/-- One transaction is one step: the port loses exactly what the step took, and EXTRACTING is never left behind
(R78). -/
def Obligations.StepIsAtomic : Prop :=
  ∀ s t : State, s.phase ≠ .extracting → step s = .next t →
    t.port = s.port.tail ∧ t.phase ≠ .extracting

/-- Every script of host transactions runs to its end, whatever it does: the block never halts, locks up or needs a
reset (R220), and what it leaves meets the invariant. -/
def Obligations.EveryScriptRunsToCompletion : Prop :=
  ∀ (is : List Instr) (s : State), s.Inv →
    ∃ t, RunsTo is.length { s with port := hostEvents is } t ∧ t.port = [] ∧ t.Inv

/-! ### Reset -/

/-- The reset input, from any state, and power-on: every register at its reset value of R21, whatever it held, every
FIELD entry 0, the capacities at their constants (R250). That reset is an event on the port is the model's choice (log
entry 7). -/
def Obligations.ResetSetsEveryRegister : Prop :=
  State.reset.AtResetValues ∧
  ∀ (s : State) (rest : List PortEvent), s.port = .resetInput :: rest →
    ∃ t, step s = .next t ∧ t.cfg = s.cfg ∧ t.AtResetValues

/-- The invariants hold right after reset (R251), for every legal pair of capacities. -/
def Obligations.ResetMeetsTheInvariant : Prop :=
  (∀ (c : Config) (n : Nat), c.wellFormed = true → (State.resetWith c n).Inv) ∧ State.reset.Inv

/-! ### Errors -/

/-- ClearResults() writes 0 to every register of the result group and to nothing else (R49). -/
def Obligations.ClearResultsClearsTheResultGroup : Prop :=
  ∀ s : State, s.clearResults =
    { s with
      err := .none, sofIdx := 0#16, eofIdx := 0#16, frameLen := 0#16, crcRetrieved := 0#16, crcComputed := 0#16,
      payloadOff := 0#16, payloadLen := 0#16, rdVcount := 0#16, rdTcount := 0#16, rdVexp := 0#2, rdTexp := 0#2,
      field := List.replicate s.cfg.fieldCap 0#16 }

/-- What the two ways to raise an error write (R224, R226). -/
def Obligations.ErrorEntriesWriteTheirRecord : Prop :=
  ∀ s : State,
    (∀ code, s.raiseFailure code =
      { s with
        phase := .failed, err := code, rdVcount := 0#16, rdTcount := 0#16, rdVexp := 0#2, rdTexp := 0#2,
        field := List.replicate s.cfg.fieldCap 0#16 }) ∧
    ∀ code, s.raiseCmdError code = { s with cmdStatus := code }

/-- What each failure leaves in the result group (R223), for a command that ran and failed from a state a run can
reach. -/
def Obligations.FailureLeavesItsRecord : Prop :=
  ∀ (i : Instr) (s t : State), s.Inv → i ∈ [Instr.extract, .verify, .decode, .cycle] →
    exec i s = .next t → t.cmdStatus = .ok → t.phase = .failed →
    t.ReadingCleared ∧
    ((t.err = .markerNotFoundSof ∧ t.sofIdx = 0#16 ∧ t.FrameCleared ∧ t.CrcsCleared ∧ t.PayloadCleared) ∨
     (t.err = .markerNotFoundEof ∧ t.MarkerAt 0x1A#8 0x85#8 t.sofIdx.toNat ∧ t.FrameCleared ∧ t.CrcsCleared ∧
       t.PayloadCleared) ∨
     (t.err = .frameTooShort ∧ t.FrameWithin t.ibufLen.toNat ∧ t.MarkersStand ∧
       (t.frameLen = 4#16 ∨ t.frameLen = 5#16) ∧ t.CrcsCleared ∧ t.PayloadCleared) ∨
     (t.err = .crcMismatch ∧ t.FrameWithin t.ibufLen.toNat ∧ t.MarkersStand ∧
       t.crcRetrieved = t.crcField ∧ t.crcComputed = crc16 t.crcData ∧ t.crcRetrieved ≠ t.crcComputed ∧
       t.PayloadCleared) ∨
     ((t.err = .payloadLengthMismatch ∨ t.err = .profileInvalid) ∧ t.FrameWithin t.ibufLen.toNat ∧ t.MarkersStand ∧
       t.PayloadHeld))

/-- The CMD_STATUS that a write of v to CMD leaves: ILLEGAL, SEQUENCE and RANGE under exactly the conditions of R222,
OK otherwise (R23). -/
def Obligations.CommandAcceptance : Prop :=
  ∀ (v : Word) (s : State), ∃ t, exec (.regWrite 0x00#8 v) s = .next t ∧
    t.cmdStatus =
      if v.extractLsb' 4 12 ≠ 0#12 ∨ 0x7 ≤ (v.extractLsb' 0 4).toNat then .illegal
      else if (v = 0x0003#16 ∧ s.phase ≠ .verifying) ∨ (v = 0x0004#16 ∧ s.phase ≠ .decoding) then .sequence
      else if v = 0x0006#16 ∧ s.ibufLen.toNat < s.crcArgStart.toNat + s.crcArgLen.toNat then .range
      else .ok

/-- Only a write of CMD, and reset, write CMD_STATUS (R23). -/
def Obligations.CmdStatusIsWrittenByCmdOnly : Prop :=
  ∀ s t : State, step s = .next t → t.cmdStatus ≠ s.cmdStatus →
    (∃ rest, s.port = .resetInput :: rest) ∨
    (∃ v rest, s.port = .request (.cmd16 v) :: rest) ∨
    (∃ w v rest, s.port = .request w :: rest ∧ decode w = .ok (.regWrite 0x00#8 v))

/-! ### Pipeline control -/

/-- NOP sets CMD_STATUS = OK and changes nothing else (R200). -/
def Obligations.NopOnlySetsOk : Prop :=
  ∀ s : State, exec .nop s = .next { s with cmdStatus := .ok } ∧ exec (.regWrite 0x00#8 0x0000#16) s = exec .nop s

/-- CLEAR sets CMD_STATUS = OK, clears the result group and returns to IDLE; it touches nothing else (R201). -/
def Obligations.ClearReturnsToIdle : Prop :=
  ∀ s : State,
    exec .clear s = .next { s with
      cmdStatus := .ok, phase := .idle,
      err := .none, sofIdx := 0#16, eofIdx := 0#16, frameLen := 0#16, crcRetrieved := 0#16, crcComputed := 0#16,
      payloadOff := 0#16, payloadLen := 0#16, rdVcount := 0#16, rdTcount := 0#16, rdVexp := 0#2, rdTexp := 0#2,
      field := List.replicate s.cfg.fieldCap 0#16 } ∧
    exec (.regWrite 0x00#8 0x0001#16) s = exec .clear s

/-- CYCLE has exactly the effect of EXTRACT, VERIFY and DECODE in turn, stopped at the first stage that leaves FAILED,
with CMD_STATUS = OK at the end (R202). -/
def Obligations.CycleIsTheThreeStages : Prop :=
  ∀ s : State, exec (.regWrite 0x00#8 0x0005#16) s = exec .cycle s ∧ ∃ t, exec .cycle s = .next t ∧ t.cmdStatus = .ok ∧
    ∃ t1, exec .extract s = .next t1 ∧
      (t1.phase = .failed → t = t1) ∧
      (t1.phase ≠ .failed → ∃ t2, exec .verify t1 = .next t2 ∧
        (t2.phase = .failed → t = t2) ∧
        (t2.phase ≠ .failed → exec .decode t2 = .next t))

/-- The transition function of the pipeline state, with what a failing stage and a rejected command record (R203). -/
def Obligations.TransitionTable : Prop :=
  ∀ s : State,
    (∃ t, exec .nop s = .next t ∧ t.phase = s.phase) ∧
    (∃ t, exec .clear s = .next t ∧ t.phase = .idle) ∧
    (∃ t, exec .extract s = .next t ∧
      (t.phase = .verifying ∨ (t.phase = .failed ∧ t.err ∈ [Err.markerNotFoundSof, .markerNotFoundEof]))) ∧
    (∃ t, exec .verify s = .next t ∧
      if s.phase = .verifying then
        t.phase = .decoding ∨ (t.phase = .failed ∧ t.err ∈ [Err.frameTooShort, .crcMismatch])
      else t.phase = s.phase ∧ t.cmdStatus = .sequence) ∧
    (∃ t, exec .decode s = .next t ∧
      if s.phase = .decoding then
        t.phase = .ready ∨ (t.phase = .failed ∧ t.err ∈ [Err.payloadLengthMismatch, .profileInvalid])
      else t.phase = s.phase ∧ t.cmdStatus = .sequence) ∧
    (∃ t, exec .cycle s = .next t ∧ (t.phase = .ready ∨ (t.phase = .failed ∧ t.err ≠ .none))) ∧
    (∃ t, exec .crc s = .next t ∧ t.phase = s.phase) ∧
    (∀ v, (HostWord.cmd16 v).wellFormed = false →
      ∃ t, exec (.regWrite 0x00#8 v) s = .next t ∧ t.phase = s.phase ∧ t.cmdStatus = .illegal) ∧
    (∀ (a : BufIdx) (b : Byte), a.toNat < s.cfg.bufCap →
      ∃ t, exec (.bufWrite a b) s = .next t ∧
        t.phase = if s.phase = .verifying ∨ s.phase = .decoding then .idle else s.phase) ∧
    (∀ v, ∃ t, exec (.regWrite 0x04#8 v) s = .next t ∧
      t.phase = if s.phase = .verifying ∨ s.phase = .decoding then .idle else s.phase) ∧
    (∀ r v, r ≠ 0x00#8 → r ≠ 0x04#8 → ∃ t, exec (.regWrite r v) s = .next t ∧ t.phase = s.phase)

/-- VERIFY outside VERIFYING and DECODE outside DECODING have one effect, CMD_STATUS = SEQUENCE; the other commands are
legal in every state (R205). -/
def Obligations.MisorderedStageOnlySetsSequence : Prop :=
  ∀ s : State,
    (s.phase ≠ .verifying → exec .verify s = .next { s with cmdStatus := .sequence }) ∧
    (s.phase ≠ .decoding → exec .decode s = .next { s with cmdStatus := .sequence }) ∧
    ∀ i ∈ [Instr.extract, .cycle, .clear, .nop, .crc], ∃ t, exec i s = .next t ∧ t.cmdStatus ≠ .sequence

/-- READY and FAILED are left by CLEAR, EXTRACT, CYCLE and reset only (R204, R229). -/
def Obligations.RestStatesAreLeftByFourThings : Prop :=
  ∀ s t : State, s.phase = .ready ∨ s.phase = .failed → step s = .next t → t.phase ≠ s.phase →
    (∃ rest, s.port = .resetInput :: rest) ∨
    ∃ w rest i, s.port = .request w :: rest ∧ decode w = .ok i ∧
      i ∈ [Instr.clear, .extract, .cycle, .regWrite 0x00#8 0x0001#16, .regWrite 0x00#8 0x0002#16,
        .regWrite 0x00#8 0x0005#16]

/-- The commands leave alone IBUF, the configuration, the input and profile registers, the arguments of CRC and the
port, and only CRC writes CRC_RESULT (R11, R44, R102). -/
def Obligations.CommandsKeepTheInputs : Prop :=
  ∀ i ∈ [Instr.nop, .clear, .extract, .verify, .decode, .cycle, .crc], ∀ s : State,
    ∃ t, exec i s = .next t ∧ s.SameInputs t ∧ (∀ a, t.ibufByte a = s.ibufByte a) ∧
      (i ≠ .crc → t.crcResult = s.crcResult)

/-! ### The frame boundary detector -/

/-- EXTRACT: the first SOF, the first EOF at or after SOF + 2, and the frame between them; or the failure of the search
that finds nothing (R121, R123, R124, R125). -/
def Obligations.ExtractHoldsTheFirstFrame : Prop :=
  ∀ s : State,
    exec (.regWrite 0x00#8 0x0002#16) s = exec .extract s ∧
    ((∀ i, ¬ s.MarkerAt 0x1A#8 0x85#8 i) →
      exec .extract s =
        .next { s.clearResults with cmdStatus := .ok, phase := .failed, err := .markerNotFoundSof }) ∧
    (∀ sof, s.FirstMarker 0x1A#8 0x85#8 0 sof → (∀ j, sof + 2 ≤ j → ¬ s.MarkerAt 0x22#8 0xCE#8 j) →
      exec .extract s =
        .next { s.clearResults with
          cmdStatus := .ok, phase := .failed, err := .markerNotFoundEof, sofIdx := BitVec.ofNat 16 sof }) ∧
    (∀ sof eof, s.FirstMarker 0x1A#8 0x85#8 0 sof → s.FirstMarker 0x22#8 0xCE#8 (sof + 2) eof →
      exec .extract s =
        .next { s.clearResults with
          cmdStatus := .ok, phase := .verifying, sofIdx := BitVec.ofNat 16 sof, eofIdx := BitVec.ofNat 16 eof,
          frameLen := BitVec.ofNat 16 (eof + 2 - sof) })

/-- EXTRACT's result depends only on IBUF_LEN and the bytes below it, not on the state it started in; it writes no IBUF
byte, no profile register and no CRC-unit register (R127). -/
def Obligations.ExtractDependsOnTheValidBytesOnly : Prop :=
  ∀ s s' : State, s'.cfg = s.cfg → s'.ibufLen = s.ibufLen →
    (∀ k, k < s.ibufLen.toNat → s'.ibufByte k = s.ibufByte k) →
    ∃ t t', exec .extract s = .next t ∧ exec .extract s' = .next t' ∧
      t.SameResults t' ∧ t'.cmdStatus = t.cmdStatus ∧
      s.SameInputs t ∧ t.crcResult = s.crcResult

/-! ### The CRC-16/CCITT validator -/

/-- The table that the generator of R141 gives is the one that R142 lists, and R143 gives the spec's listed checksums
on it. -/
def Obligations.CrcTableAndKnownValues : Prop :=
  crcListed.length = 256 ∧ (∀ i : Byte, crcListed[i.toNat]? = some (crcTable i)) ∧
  crc16 [] = 0xFFFF#16 ∧
  crc16 [0x31#8, 0x32#8, 0x33#8, 0x34#8, 0x35#8, 0x36#8, 0x37#8, 0x38#8, 0x39#8] = 0x29B1#16 ∧
  crc16 [0x1A#8, 0x85#8] = 0x309A#16 ∧
  crc16 [0x01#8, 0x02#8, 0x03#8, 0x00#8, 0x64#8] = 0x2347#16

/-- The bitwise form gives the same result as the table-driven form for every byte sequence (R144). -/
def Obligations.BitwiseCrcEqualsTableCrc : Prop :=
  ∀ d : List Byte, crc16Bitwise d = crc16 d

/-- Two sequences of equal length that differ in exactly one byte have different checksums (R150 item 4). -/
def Obligations.CrcDetectsASingleByteError : Prop :=
  ∀ (front back : List Byte) (b b' : Byte), b ≠ b' →
    crc16 (front ++ b :: back) ≠ crc16 (front ++ b' :: back)

/-- VERIFY (R145), with the slice of StripPayload (R146) and the coverage of the CRC (R147). -/
def Obligations.VerifyChecksAndStrips : Prop :=
  ∀ s : State,
    exec (.regWrite 0x00#8 0x0003#16) s = exec .verify s ∧
    (s.phase ≠ .verifying → exec .verify s = .next { s with cmdStatus := .sequence }) ∧
    (s.phase = .verifying → s.frameLen.toNat < 6 →
      exec .verify s = .next ({ s with cmdStatus := .ok }.raiseFailure .frameTooShort)) ∧
    (s.phase = .verifying → 6 ≤ s.frameLen.toNat →
      ∀ (base len : Nat) (retrieved computed : Word) (st e0 : Nat),
        base = s.sofIdx.toNat → len = s.frameLen.toNat →
        retrieved = s.ibufByte (base + len - 4) ++ s.ibufByte (base + len - 3) →
        computed = crc16 (s.bufRange (base + 2) (base + len - 4)) →
        st = min s.hdrEnd.toNat len → e0 = (if s.tailTrim.toNat ≤ len then len - s.tailTrim.toNat else 0) →
        (computed ≠ retrieved →
          exec .verify s = .next
            ({ s with cmdStatus := .ok, crcRetrieved := retrieved, crcComputed := computed }.raiseFailure
              .crcMismatch)) ∧
        (computed = retrieved →
          exec .verify s = .next
            { s with
              cmdStatus := .ok, crcRetrieved := retrieved, crcComputed := computed,
              payloadOff := BitVec.ofNat 16 (base + st), payloadLen := BitVec.ofNat 16 (max st e0 - st),
              phase := .decoding }))

/-- With the reset profile (HDR_END 5, TAIL_TRIM 4) the payload is frame bytes [5 .. L−4), and empty where the bounds
cross, 6 ≤ L ≤ 8 (R146). -/
def Obligations.ResetProfileSlice : Prop :=
  ∀ s : State, s.phase = .verifying → s.hdrEnd = 5#16 → s.tailTrim = 4#16 → 6 ≤ s.frameLen.toNat →
    s.sofIdx.toNat + s.frameLen.toNat ≤ 65535 → crc16 s.crcData = s.crcField →
    ∃ t, exec .verify s = .next t ∧ t.phase = .decoding ∧ t.payloadOff.toNat = s.sofIdx.toNat + 5 ∧
      (9 ≤ s.frameLen.toNat →
        t.bufRange t.payloadOff.toNat (t.payloadOff.toNat + t.payloadLen.toNat) =
          s.bufRange (s.sofIdx.toNat + 5) (s.sofIdx.toNat + s.frameLen.toNat - 4)) ∧
      (s.frameLen.toNat ≤ 8 → t.payloadLen = 0#16)

/-- The three readings of the 24-cell slice: under each, a verified frame has the 56 payload bytes of the 24/4 profile
exactly when it has the length that R151 gives. -/
def Obligations.P24SliceFrameLengths : Prop :=
  ∀ (slice : P24Slice) (s : State), s.phase = .verifying →
    s.hdrEnd = slice.registers.1 → s.tailTrim = slice.registers.2 → 6 ≤ s.frameLen.toNat →
    crc16 s.crcData = s.crcField →
    ∃ t, exec .verify s = .next t ∧ t.phase = .decoding ∧
      (t.payloadLen = 56#16 ↔ s.frameLen.toNat = slice.frameLen)

/-- VERIFY catches a corruption of any one byte of the data of a held frame: where the frame passes, the frame with
that byte changed fails with CRC_MISMATCH (R150 item 4, 90_conflicts.md C6). -/
def Obligations.VerifyCatchesASingleByteCorruption : Prop :=
  ∀ (s t : State) (k : Nat) (m : List Host.Cell), s.Inv → s.phase = .verifying →
    exec .verify s = .next t → t.phase = .decoding →
    s.sofIdx.toNat + 2 ≤ k → k < s.sofIdx.toNat + s.frameLen.toNat - 4 →
    ({ s with ibuf := m } : State).ibufByte k ≠ s.ibufByte k →
    (∀ j, j ≠ k → ({ s with ibuf := m } : State).ibufByte j = s.ibufByte j) →
    ∃ u, exec .verify { s with ibuf := m } = .next u ∧ u.phase = .failed ∧ u.err = .crcMismatch

/-- CRC (R160). -/
def Obligations.CrcCommandResult : Prop :=
  ∀ s : State,
    exec (.regWrite 0x00#8 0x0006#16) s = exec .crc s ∧
    (s.ibufLen.toNat < s.crcArgStart.toNat + s.crcArgLen.toNat →
      exec .crc s = .next { s with cmdStatus := .range }) ∧
    (s.crcArgStart.toNat + s.crcArgLen.toNat ≤ s.ibufLen.toNat →
      exec .crc s = .next { s with
        cmdStatus := .ok
        crcResult := crc16 (s.bufRange s.crcArgStart.toNat (s.crcArgStart.toNat + s.crcArgLen.toNat)) })

/-- The corner cases of CRC (R161): the empty range, no wrap-around, held views stay, and agreement with VERIFY. -/
def Obligations.CrcCommandCornerCases : Prop :=
  ∀ s : State, ∃ t, exec .crc s = .next t ∧
    (s.crcArgLen = 0#16 → s.crcArgStart.toNat ≤ s.ibufLen.toNat → t.crcResult = 0xFFFF#16) ∧
    (s.crcArgLen = 0#16 → s.ibufLen.toNat < s.crcArgStart.toNat → t.cmdStatus = .range) ∧
    (s.crcArgStart = 0xFFFF#16 → s.crcArgLen = 0xFFFF#16 → t.cmdStatus = .range) ∧
    s.SameResults t ∧
    (s.Inv → s.phase = .verifying → 6 ≤ s.frameLen.toNat →
      s.crcArgStart.toNat = s.sofIdx.toNat + 2 → s.crcArgLen.toNat = s.frameLen.toNat - 6 →
      ∃ u, exec .verify s = .next u ∧ t.crcResult = u.crcComputed)

/-! ### The field extractor and the scaler -/

/-- DECODE (R170, R171): the sequence check, the profile check, the length check, and the fields, big-endian pairs in
payload order, with the split and scale in force. -/
def Obligations.DecodeWritesTheReading : Prop :=
  ∀ (s : State) (n : Nat), n = s.vcount.toNat + s.tcount.toNat →
    exec (.regWrite 0x00#8 0x0004#16) s = exec .decode s ∧
    (s.phase ≠ .decoding → exec .decode s = .next { s with cmdStatus := .sequence }) ∧
    (s.phase = .decoding → s.cfg.fieldCap < n →
      exec .decode s = .next ({ s with cmdStatus := .ok }.raiseFailure .profileInvalid)) ∧
    (s.phase = .decoding → n ≤ s.cfg.fieldCap → s.payloadLen.toNat ≠ 2 * n →
      exec .decode s = .next ({ s with cmdStatus := .ok }.raiseFailure .payloadLengthMismatch)) ∧
    (s.phase = .decoding → n ≤ s.cfg.fieldCap → s.payloadLen.toNat = 2 * n →
      ∃ fields : List Word,
        exec .decode s = .next
          { s with
            cmdStatus := .ok, field := fields, rdVcount := s.vcount, rdTcount := s.tcount,
            rdVexp := s.vexp, rdTexp := s.texp, phase := .ready } ∧
        (∀ i, i < n → fields[i]? =
          some (s.ibufByte (s.payloadOff.toNat + 2 * i) ++ s.ibufByte (s.payloadOff.toNat + 2 * i + 1))) ∧
        (∀ i, n ≤ i → fields[i]? = s.field[i]?))

/-- A field's signed value is the big-endian two's-complement interpretation of its two bytes (R10, R75, R172). -/
def Obligations.FieldIsBigEndianSigned : Prop :=
  ∀ hi lo : Byte, sint16 (hi ++ lo) = hi.toInt * 256 + (lo.toNat : Int)

/-- The class of a field (R175) and its exact scaled value in READY (R180). -/
def Obligations.ScaledFieldValue : Prop :=
  ∀ (s : State) (i : Nat), s.phase = .ready →
    (i < s.rdVcount.toNat →
      s.fieldClass i = .voltage ∧
      s.scaled? i = some (((s.fieldAt i).toInt : Rat) / 10 ^ s.rdVexp.toNat)) ∧
    (s.rdVcount.toNat ≤ i → i < s.rdVcount.toNat + s.rdTcount.toNat →
      s.fieldClass i = .temperature ∧
      s.scaled? i = some (((s.fieldAt i).toInt : Rat) / 10 ^ s.rdTexp.toNat)) ∧
    (s.rdVcount.toNat + s.rdTcount.toNat ≤ i → s.fieldClass i = .noField ∧ (s.Inv → s.fieldAt i = 0#16))

/-- Millivolt voltages lie in [−32.768, 32.767] V, deci-degree temperatures in [−3276.8, 3276.7] °C (R182 items 3
and 4). -/
def Obligations.ScaledFieldRange : Prop :=
  ∀ (s : State) (i : Nat) (q : Rat), s.scaled? i = some q →
    (i < s.rdVcount.toNat → s.rdVexp = 3#2 → -32768 / 1000 ≤ q ∧ q ≤ 32767 / 1000) ∧
    (s.rdVcount.toNat ≤ i → s.rdTexp = 1#2 → -32768 / 10 ≤ q ∧ q ≤ 32767 / 10)

/-- A held reading does not change when the host writes the profile, the other registers or IBUF (R173, R204, R255). -/
def Obligations.HeldReadingIsLatched : Prop :=
  ∀ (s : State) (i : Instr), s.phase = .ready →
    (∃ r v, r ≠ 0x00#8 ∧ i = .regWrite r v) ∨ (∃ a b, i = .bufWrite a b) →
    ∃ t, exec i s = .next t ∧ t.phase = .ready ∧
      ∀ k, t.fieldAt k = s.fieldAt k ∧ t.fieldClass k = s.fieldClass k ∧ t.scaled? k = s.scaled? k

/-- FIELD is written by a DECODE or a CYCLE that ends in READY, and otherwise only cleared (R47). -/
def Obligations.FieldIsWrittenByDecodeOnly : Prop :=
  ∀ s t : State, step s = .next t → t.field ≠ s.field →
    t.field = List.replicate t.cfg.fieldCap 0#16 ∨
    (t.phase = .ready ∧ ∃ w rest i, s.port = .request w :: rest ∧ decode w = .ok i ∧
      i ∈ [Instr.decode, .cycle, .regWrite 0x00#8 0x0004#16, .regWrite 0x00#8 0x0005#16])

/-! ### The host port -/

/-- RegRead: the value of every register of the map, the FIELD window, the reserved numbers, and no other effect than
the value returned (R71). The codes are those of R23, R24 and R25. The value returned stands in the model's own field
`reply` (log entry 3). -/
def Obligations.RegReadReturnsTheRegister : Prop :=
  ∀ s : State,
    let reads : RegNum → Word → Prop := fun r v => exec (.regRead r) s = .next { s with reply := .reg v }
    reads 0x00#8 0#16 ∧
    reads 0x01#8 (match s.cmdStatus with | .ok => 0#16 | .illegal => 1#16 | .sequence => 2#16 | .range => 3#16) ∧
    reads 0x02#8 (match s.phase with
      | .idle => 0#16 | .extracting => 1#16 | .verifying => 2#16 | .decoding => 3#16 | .ready => 4#16
      | .failed => 5#16) ∧
    reads 0x03#8 (match s.err with
      | .none => 0#16 | .markerNotFoundSof => 1#16 | .markerNotFoundEof => 2#16 | .frameTooShort => 3#16
      | .crcMismatch => 4#16 | .payloadLengthMismatch => 5#16 | .profileInvalid => 6#16) ∧
    reads 0x04#8 s.ibufLen ∧ reads 0x05#8 s.vcount ∧ reads 0x06#8 s.tcount ∧ reads 0x07#8 s.hdrEnd ∧
    reads 0x08#8 s.tailTrim ∧ reads 0x09#8 (BitVec.ofNat 16 (4 * s.texp.toNat + s.vexp.toNat)) ∧
    reads 0x0A#8 s.sofIdx ∧ reads 0x0B#8 s.eofIdx ∧ reads 0x0C#8 s.frameLen ∧ reads 0x0D#8 s.crcRetrieved ∧
    reads 0x0E#8 s.crcComputed ∧ reads 0x0F#8 s.payloadOff ∧ reads 0x10#8 s.payloadLen ∧
    reads 0x11#8 s.rdVcount ∧ reads 0x12#8 s.rdTcount ∧
    reads 0x13#8 (BitVec.ofNat 16 (4 * s.rdTexp.toNat + s.rdVexp.toNat)) ∧
    reads 0x14#8 s.crcArgStart ∧ reads 0x15#8 s.crcArgLen ∧ reads 0x16#8 s.crcResult ∧
    reads 0x17#8 (BitVec.ofNat 16 s.cfg.bufCap) ∧ reads 0x18#8 (BitVec.ofNat 16 s.cfg.fieldCap) ∧
    (∀ r : RegNum, 0x40 ≤ r.toNat → r.toNat - 0x40 < s.cfg.fieldCap →
      reads r (s.field.getD (r.toNat - 0x40) 0#16)) ∧
    (∀ r : RegNum, 0x40 ≤ r.toNat → s.cfg.fieldCap ≤ r.toNat - 0x40 → reads r 0#16) ∧
    (∀ r : RegNum, 0x19 ≤ r.toNat → r.toNat ≤ 0x3F → reads r 0#16)

/-- RegWrite: its effect at every register number (R73). -/
def Obligations.RegWriteEffect : Prop :=
  ∀ (s : State) (v : Word),
    (∀ c : Command, exec (.regWrite 0x00#8 c.word) s = exec c.instr s) ∧
    (v.extractLsb' 4 12 ≠ 0#12 ∨ 0x7 ≤ (v.extractLsb' 0 4).toNat →
      exec (.regWrite 0x00#8 v) s = .next { s with cmdStatus := .illegal }) ∧
    (∀ t, t = ({ s with ibufLen := BitVec.ofNat 16 (min v.toNat s.cfg.bufCap) } : State) →
      exec (.regWrite 0x04#8 v) s = .next
        (if s.phase = .verifying ∨ s.phase = .decoding then { t.clearResults with phase := .idle } else t)) ∧
    exec (.regWrite 0x05#8 v) s = .next { s with vcount := v } ∧
    exec (.regWrite 0x06#8 v) s = .next { s with tcount := v } ∧
    exec (.regWrite 0x07#8 v) s = .next { s with hdrEnd := v } ∧
    exec (.regWrite 0x08#8 v) s = .next { s with tailTrim := v } ∧
    exec (.regWrite 0x09#8 v) s = .next { s with vexp := v.extractLsb' 0 2, texp := v.extractLsb' 2 2 } ∧
    exec (.regWrite 0x14#8 v) s = .next { s with crcArgStart := v } ∧
    exec (.regWrite 0x15#8 v) s = .next { s with crcArgLen := v } ∧
    (∀ r ∈ [0x01#8, 0x02#8, 0x03#8, 0x0A#8, 0x0B#8, 0x0C#8, 0x0D#8, 0x0E#8, 0x0F#8, 0x10#8, 0x11#8, 0x12#8, 0x13#8,
        0x16#8, 0x17#8, 0x18#8], exec (.regWrite r v) s = .next s) ∧
    (∀ r : RegNum, 0x19 ≤ r.toNat → exec (.regWrite r v) s = .next s)

/-- BufRead and BufWrite: the byte at the index and no other, the invalidation, and nothing at or above BUF_CAP; no
command of the engine writes IBUF (R72). The byte returned stands in the model's own field `reply` (log entry 3). -/
def Obligations.BufTransactionEffect : Prop :=
  ∀ (s : State) (a : BufIdx) (b : Byte),
    (a.toNat < s.cfg.bufCap →
      exec (.bufRead a) s = .next { s with reply := .byte (s.ibufByte a.toNat) } ∧
      ∃ t, exec (.bufWrite a b) s = .next t ∧
        (∀ i, t.ibufByte i = if i = a.toNat then b else s.ibufByte i) ∧
        (s.phase = .verifying ∨ s.phase = .decoding →
          t = { s.clearResults with ibuf := t.ibuf, phase := .idle }) ∧
        (¬ (s.phase = .verifying ∨ s.phase = .decoding) → t = { s with ibuf := t.ibuf })) ∧
    (s.cfg.bufCap ≤ a.toNat →
      exec (.bufRead a) s = .next { s with reply := .byte 0x00#8 } ∧
      exec (.bufWrite a b) s = .next s) ∧
    ∀ c : Command, ∃ t, exec c.instr s = .next t ∧ ∀ i, t.ibufByte i = s.ibufByte i

/-- The IBUF invalidation (R74), and what it is for: a VERIFY or DECODE after it is rejected with SEQUENCE (R255). -/
def Obligations.IbufWriteDropsAHeldView : Prop :=
  ∀ (s : State) (i : Instr),
    (∃ (a : BufIdx) (b : Byte), a.toNat < s.cfg.bufCap ∧ i = .bufWrite a b) ∨ (∃ v, i = .regWrite 0x04#8 v) →
    ∃ t, exec i s = .next t ∧
      (s.phase = .verifying ∨ s.phase = .decoding →
        t = { s.clearResults with phase := .idle, ibuf := t.ibuf, ibufLen := t.ibufLen } ∧ t.ResultsCleared ∧
        exec .verify t = .next { t with cmdStatus := .sequence } ∧
        exec .decode t = .next { t with cmdStatus := .sequence }) ∧
      (¬ (s.phase = .verifying ∨ s.phase = .decoding) → t = { s with ibuf := t.ibuf, ibufLen := t.ibufLen }) ∧
      (∀ a b, i = .bufWrite a b →
        t.ibufLen = s.ibufLen ∧ ∀ k, t.ibufByte k = if k = a.toNat then b else s.ibufByte k) ∧
      (∀ v, i = .regWrite 0x04#8 v →
        t.ibuf = s.ibuf ∧ t.ibufLen = BitVec.ofNat 16 (min v.toNat s.cfg.bufCap))

/-- Reads have no side effect but the value returned; writes to IBUF, IBUF_LEN and the RW registers are idempotent;
writes to CMD are not (R79). -/
def Obligations.ReadsAndWritesAreIdempotent : Prop :=
  (∀ (s : State) (i : Instr), (∃ r, i = .regRead r) ∨ (∃ a, i = .bufRead a) →
    ∃ x, exec i s = .next { s with reply := x } ∧ exec i { s with reply := x } = .next { s with reply := x }) ∧
  (∀ (s : State) (i : Instr), (∃ r v, r ≠ 0x00#8 ∧ i = .regWrite r v) ∨ (∃ a b, i = .bufWrite a b) →
    ∃ t, exec i s = .next t ∧ exec i t = .next t) ∧
  ∃ (s t u : State) (v : Word), exec (.regWrite 0x00#8 v) s = .next t ∧ exec (.regWrite 0x00#8 v) t = .next u ∧ u ≠ t

/-- A location that the host writes reads back in the next transaction as what the write stores (R82, R258). -/
def Obligations.WriteThenReadBack : Prop :=
  ∀ (s : State) (v : Word), s.cfg.wellFormed = true →
    (∀ r ∈ [0x05#8, 0x06#8, 0x07#8, 0x08#8, 0x14#8, 0x15#8],
      ∃ t, exec (.regWrite r v) s = .next t ∧ exec (.regRead r) t = .next { t with reply := .reg v }) ∧
    (∃ t, exec (.regWrite 0x09#8 v) s = .next t ∧
      exec (.regRead 0x09#8) t = .next { t with reply := .reg (v &&& 0x000F#16) }) ∧
    (∃ t u x, exec (.regWrite 0x04#8 v) s = .next t ∧ exec (.regRead 0x04#8) t = .next u ∧ u.reply = .reg x ∧
      x.toNat = min v.toNat s.cfg.bufCap) ∧
    (∀ (a : BufIdx) (b : Byte), a.toNat < s.cfg.bufCap →
      ∃ t, exec (.bufWrite a b) s = .next t ∧ exec (.bufRead a) t = .next { t with reply := .byte b })

/-- CAP_BUF and CAP_FIELD read the parameters, and no step changes them (R45). -/
def Obligations.CapacitiesAreConstant : Prop :=
  (∀ s : State, exec (.regRead 0x17#8) s = .next { s with reply := .reg (BitVec.ofNat 16 s.cfg.bufCap) } ∧
    exec (.regRead 0x18#8) s = .next { s with reply := .reg (BitVec.ofNat 16 s.cfg.fieldCap) }) ∧
  ∀ s t : State, step s = .next t → t.cfg = s.cfg

/-! ### The whole machine -/

/-- Every step keeps the invariants of R52, the failure records of R223, the canonical form of IBUF and the length of
the field file. -/
def Obligations.EveryStepKeepsTheInvariant : Prop :=
  ∀ s t : State, s.Inv → step s = .next t → t.Inv

/-- R52 item 3 word for word, EXPECTED TO FAIL: an IBUF_LEN write in READY can leave EOF_IDX + 2 above IBUF_LEN, since
R74 has no invalidation in READY (log entry 6). -/
def Obligations.FrameItemAsWrittenIsKept : Prop :=
  ∀ s t : State, s.Inv → s.FrameItemAsWritten → step s = .next t → t.FrameItemAsWritten

/-- A reading is only ever produced from a verified frame: where a DECODE or CYCLE ran and ended in READY, IBUF holds
both markers and a matching CRC over the frame's data, and the reading is the payload's big-endian pairs in order. -/
def Obligations.ReadyComesFromAVerifiedFrame : Prop :=
  ∀ (i : Instr) (s t : State), s.Inv → i ∈ [Instr.decode, .cycle] →
    exec i s = .next t → t.cmdStatus = .ok → t.phase = .ready →
    t.FrameWithin t.ibufLen.toNat ∧ t.MarkersStand ∧ 6 ≤ t.frameLen.toNat ∧
    crc16 t.crcData = t.crcField ∧ t.crcRetrieved = t.crcField ∧ t.crcComputed = t.crcField ∧
    t.rdVcount = s.vcount ∧ t.rdTcount = s.tcount ∧ t.rdVexp = s.vexp ∧ t.rdTexp = s.texp ∧
    t.payloadLen.toNat = 2 * (t.rdVcount.toNat + t.rdTcount.toNat) ∧
    (∀ k, k < t.rdVcount.toNat + t.rdTcount.toNat →
      t.fieldAt k = t.ibufByte (t.payloadOff.toNat + 2 * k) ++ t.ibufByte (t.payloadOff.toNat + 2 * k + 1)) ∧
    (∀ k, t.rdVcount.toNat + t.rdTcount.toNat ≤ k → t.fieldAt k = 0#16)

/-- The engine reads no byte of IBUF at or above IBUF_LEN: whatever those bytes hold, and whatever the free contents
of IBUF are where the bytes below IBUF_LEN agree, every command has the same result (R48, R149, R256). -/
def Obligations.EngineReadsValidBytesOnly : Prop :=
  ∀ (i : Instr) (s t : State) (m : List Host.Cell) (d : Nat), s.Inv →
    i ∈ [Instr.nop, .clear, .extract, .verify, .decode, .cycle, .crc] →
    (∀ k, k < s.ibufLen.toNat → ({ s with ibuf := m, draw := d } : State).ibufByte k = s.ibufByte k) →
    exec i s = .next t → exec i { s with ibuf := m, draw := d } = .next { t with ibuf := m, draw := d }

/-- The round trip of the source's §8, under the condition of 90_conflicts.md C6: a frame built from a header and a
payload D, with no `22 CE` in the data and its CRC, is extracted and verified, and the payload view is exactly D. -/
def Obligations.WireFrameRoundTrip : Prop :=
  ∀ (s : State) (header payload : List Byte),
    s.Loaded (wireFrame (header ++ payload)) →
    NoEofInside (header ++ payload ++ be16 (crc16 (header ++ payload))) →
    s.hdrEnd.toNat = 2 + header.length → s.tailTrim = 4#16 →
    ∃ t u, exec .extract s = .next t ∧ exec .verify t = .next u ∧ u.phase = .decoding ∧ u.cmdStatus = .ok ∧
      u.sofIdx = 0#16 ∧ u.crcRetrieved = crc16 (header ++ payload) ∧
      u.bufRange u.payloadOff.toNat (u.payloadOff.toNat + u.payloadLen.toNat) = payload

/-- A good polling cycle: the frame of 2(N+M) payload bytes, under a profile that fits the field file, is decoded by one
CYCLE, and field k of the reading is the payload's pair k (R202, R253; the condition is that of 90_conflicts.md C6). -/
def Obligations.CycleDecodesAWireFrame : Prop :=
  ∀ (s : State) (header payload : List Byte),
    s.Loaded (wireFrame (header ++ payload)) →
    NoEofInside (header ++ payload ++ be16 (crc16 (header ++ payload))) →
    s.hdrEnd.toNat = 2 + header.length → s.tailTrim = 4#16 →
    payload.length = 2 * (s.vcount.toNat + s.tcount.toNat) →
    s.vcount.toNat + s.tcount.toNat ≤ s.cfg.fieldCap →
    ∃ t, exec .cycle s = .next t ∧ t.phase = .ready ∧ t.cmdStatus = .ok ∧ t.err = .none ∧
      t.rdVcount = s.vcount ∧ t.rdTcount = s.tcount ∧ t.rdVexp = s.vexp ∧ t.rdTexp = s.texp ∧
      ∀ k (h : 2 * k + 1 < payload.length), t.fieldAt k = payload[2 * k] ++ payload[2 * k + 1]

/-- The pseudo-instruction `setbuf` loads its bytes: run from a state that holds no view, it ends with exactly those
bytes valid in IBUF and with every other part of the state as it was (R108, R253 item 1). -/
def Obligations.SetbufLoadsTheBytes : Prop :=
  ∀ (s : State) (bytes : List Byte), bytes.length ≤ s.cfg.bufCap → s.cfg.wellFormed = true →
    ¬ (s.phase = .verifying ∨ s.phase = .decoding) →
    ∃ t, RunsTo (bytes.length + 1) { s with port := scriptEvents [.setbuf bytes] } t ∧
      t.Loaded bytes ∧
      t = { s with ibuf := t.ibuf, ibufLen := BitVec.ofNat 16 bytes.length, port := [], reply := .nothing }

/-- Instances share no state: a step of one leaves every other as it was (R87). The list of instances is the model's
(log entry 8). -/
def Obligations.InstancesShareNothing : Prop :=
  ∀ (sys sys' : System) (k : Fin sys.length), stepInstance sys k = .next sys' →
    sys'.length = sys.length ∧ ∀ j, j ≠ k.val → sys'[j]? = sys[j]?
end

