-- ==== Sys2Proof/Laws/Codec.lean ====
section
/-! SUPPORT. The fields of an encoded word: what a join of fields reads back as, and that a word is the join of its
fields. -/

namespace Sys2Proof

/-- The fields K, Z, A and [15:0] of a joined HT32 register word (R106). -/
theorem ht32_reg_fields (k : BitVec 2) (a : BitVec 8) (v : BitVec 16) :
    (k ++ 0#6 ++ a ++ v).extractLsb' 30 2 = k ∧ (k ++ 0#6 ++ a ++ v).extractLsb' 24 6 = 0#6 ∧
    (k ++ 0#6 ++ a ++ v).extractLsb' 16 8 = a ∧ (k ++ 0#6 ++ a ++ v).extractLsb' 0 16 = v := by
  refine ⟨?_, ?_, ?_, ?_⟩ <;> apply BitVec.eq_of_getLsbD_eq <;> intro i hi <;>
    simp only [BitVec.getLsbD_extractLsb', BitVec.getLsbD_append, hi, decide_true, Bool.true_and]
  · rw [if_neg (by omega), if_neg (by omega), if_neg (by omega)]
    congr 1
    omega
  · rw [if_neg (by omega), if_neg (by omega), if_pos (by omega)]
    simp
  · rw [if_neg (by omega), if_pos (by omega)]
    congr 1
    omega
  · rw [if_pos (by omega)]
    congr 1
    omega

/-- The fields K, Z, the index in [23:8] and the byte in [7:0] of a joined HT32 buffer word (R106). -/
theorem ht32_buf_fields (k : BitVec 2) (a : BitVec 16) (b : BitVec 8) :
    (k ++ 0#6 ++ a ++ b).extractLsb' 30 2 = k ∧ (k ++ 0#6 ++ a ++ b).extractLsb' 24 6 = 0#6 ∧
    (k ++ 0#6 ++ a ++ b).extractLsb' 8 16 = a ∧ (k ++ 0#6 ++ a ++ b).extractLsb' 0 8 = b := by
  refine ⟨?_, ?_, ?_, ?_⟩ <;> apply BitVec.eq_of_getLsbD_eq <;> intro i hi <;>
    simp only [BitVec.getLsbD_extractLsb', BitVec.getLsbD_append, hi, decide_true, Bool.true_and]
  · rw [if_neg (by omega), if_neg (by omega), if_neg (by omega)]
    congr 1
    omega
  · rw [if_neg (by omega), if_neg (by omega), if_pos (by omega)]
    simp
  · rw [if_neg (by omega), if_pos (by omega)]
    congr 1
    omega
  · rw [if_pos (by omega)]
    congr 1
    omega

/-- An HT32 word is the join of its register fields. -/
theorem ht32_reg_join (w : BitVec 32) :
    w.extractLsb' 30 2 ++ w.extractLsb' 24 6 ++ w.extractLsb' 16 8 ++ w.extractLsb' 0 16 = w := by
  apply BitVec.eq_of_getLsbD_eq
  intro i hi
  simp only [BitVec.getLsbD_append, BitVec.getLsbD_extractLsb']
  by_cases h1 : i < 16
  · simp [h1]
  · by_cases h2 : i - 16 < 8
    · simp [h1, h2, show 16 + (i - 16) = i by omega]
    · by_cases h3 : i - 16 - 8 < 6
      · simp [h1, h2, h3, show 24 + (i - 16 - 8) = i by omega]
      · simp [h1, h2, h3, show 30 + (i - 16 - 8 - 6) = i by omega]
        omega

/-- An HT32 word is the join of its buffer fields. -/
theorem ht32_buf_join (w : BitVec 32) :
    w.extractLsb' 30 2 ++ w.extractLsb' 24 6 ++ w.extractLsb' 8 16 ++ w.extractLsb' 0 8 = w := by
  apply BitVec.eq_of_getLsbD_eq
  intro i hi
  simp only [BitVec.getLsbD_append, BitVec.getLsbD_extractLsb']
  by_cases h1 : i < 8
  · simp [h1]
  · by_cases h2 : i - 8 < 16
    · simp [h1, h2, show 8 + (i - 8) = i by omega]
    · by_cases h3 : i - 8 - 16 < 6
      · simp [h1, h2, h3, show 24 + (i - 8 - 16) = i by omega]
      · simp [h1, h2, h3, show 30 + (i - 8 - 16 - 6) = i by omega]
        omega

/-- A command word is the join of RSV and OP. -/
theorem cmd16_join (v : Word) : v.extractLsb' 4 12 ++ v.extractLsb' 0 4 = v := by
  apply BitVec.eq_of_getLsbD_eq
  intro i hi
  simp only [BitVec.getLsbD_append, BitVec.getLsbD_extractLsb']
  by_cases h1 : i < 4
  · simp [h1]
  · simp [h1, show 4 + (i - 4) = i by omega]
    omega

end Sys2Proof
end

