-- ==== Sys2Proof/Laws/Memory.lean ====
section
/-! SUPPORT. The laws of IBUF's storage: a read after a write, and that a write keeps the canonical form. -/

namespace Sys2Proof.Machine

@[simp] theorem Memory.get?_nil (a : Nat) : Memory.get? [] a = none := rfl

@[simp] theorem Memory.get?_set_same (m : Memory) (a : Nat) (b : BitVec 8) :
    Memory.get? (Memory.set m a b) a = some b := by
  induction m with
  | nil => simp [Memory.set, Memory.get?]
  | cons c m ih =>
    obtain ⟨k, v⟩ := c
    simp only [Memory.set]
    split
    · simp [Memory.get?]
    · split
      · simp [Memory.get?]
      · next h => simp [Memory.get?, Ne.symm h, ih]

theorem Memory.get?_set_other (m : Memory) {a a' : Nat} (b : BitVec 8) (h : a' ≠ a) :
    Memory.get? (Memory.set m a b) a' = Memory.get? m a' := by
  induction m with
  | nil => simp [Memory.set, Memory.get?, Ne.symm h]
  | cons c m ih =>
    obtain ⟨k, v⟩ := c
    simp only [Memory.set]
    split
    · simp [Memory.get?, Ne.symm h]
    · split
      · next hk => simp [Memory.get?, ← hk, Ne.symm h]
      · simp [Memory.get?, ih]

theorem Memory.set_set_same (m : Memory) (a : Nat) (b b' : BitVec 8) :
    Memory.set (Memory.set m a b) a b' = Memory.set m a b' := by
  induction m with
  | nil => simp [Memory.set]
  | cons c m ih =>
    obtain ⟨k, v⟩ := c
    simp only [Memory.set]
    split
    · simp [Memory.set]
    · split
      · simp [Memory.set]
      · next h1 h2 => simp [Memory.set, h1, h2, ih]

/-- The canonical form, entry by entry. -/
theorem Memory.wf_iff_pairwise (m : Memory) :
    Memory.wf m = true ↔ m.Pairwise fun c d => c.1 < d.1 := by
  induction m with
  | nil => simp [Memory.wf]
  | cons c m ih =>
    obtain ⟨a, x⟩ := c
    cases m with
    | nil => simp [Memory.wf]
    | cons d m =>
      obtain ⟨b, y⟩ := d
      simp only [Memory.wf, Bool.and_eq_true, decide_eq_true_eq, ih, List.pairwise_cons, List.mem_cons,
        forall_eq_or_imp]
      constructor
      · rintro ⟨hab, hb, hm⟩
        exact ⟨⟨hab, fun e he => hab.trans (hb e he)⟩, hb, hm⟩
      · rintro ⟨⟨hab, _⟩, hb, hm⟩
        exact ⟨hab, hb, hm⟩

theorem Memory.mem_set (m : Memory) (a : Nat) (b : BitVec 8) (c : Host.Cell) (h : c ∈ Memory.set m a b) :
    c = (a, b) ∨ c ∈ m := by
  induction m with
  | nil => simpa [Memory.set] using h
  | cons d m ih =>
    obtain ⟨k, v⟩ := d
    simp only [Memory.set] at h
    split at h
    · simpa using h
    · split at h
      · simp only [List.mem_cons] at h ⊢
        tauto
      · simp only [List.mem_cons] at h ⊢
        rcases h with h | h
        · exact .inr (.inl h)
        · rcases ih h with h | h
          · exact .inl h
          · exact .inr (.inr h)

/-- A write keeps the canonical form. -/
theorem Memory.set_wf (m : Memory) (a : Nat) (b : BitVec 8) (h : Memory.wf m = true) :
    Memory.wf (Memory.set m a b) = true := by
  rw [Memory.wf_iff_pairwise] at *
  induction m with
  | nil => simp [Memory.set]
  | cons c m ih =>
    obtain ⟨k, v⟩ := c
    rw [List.pairwise_cons] at h
    simp only [Memory.set]
    split
    · next hk =>
      refine List.pairwise_cons.2 ⟨?_, List.pairwise_cons.2 h⟩
      intro d hd
      rcases List.mem_cons.1 hd with rfl | hd
      · exact hk
      · exact hk.trans (h.1 d hd)
    · split
      · next hk => exact List.pairwise_cons.2 ⟨by simpa [hk] using h.1, h.2⟩
      · next h1 h2 =>
        refine List.pairwise_cons.2 ⟨?_, ih h.2⟩
        intro d hd
        rcases Memory.mem_set m a b d hd with rfl | hd
        · exact Nat.lt_of_le_of_ne (Nat.le_of_not_lt h1) (Ne.symm h2)
        · exact h.1 d hd

/-- A write below the capacity keeps every address below it. -/
theorem Memory.set_below (m : Memory) {a cap : Nat} (b : BitVec 8) (h : Memory.below m cap = true) (ha : a < cap) :
    Memory.below (Memory.set m a b) cap = true := by
  simp only [Memory.below, List.all_eq_true, decide_eq_true_eq] at *
  intro c hc
  rcases Memory.mem_set m a b c hc with rfl | hc
  · exact ha
  · exact h c hc

end Sys2Proof.Machine
end

