-- ==== Sys2Proof/Laws/State.lean ====
section
/-! SUPPORT. What each named update does to each field of the state, and to a read of IBUF. -/

namespace Sys2Proof.Machine

open Sys2Proof

/-! `State.setCmdStatus` -/

@[simp] theorem State.setCmdStatus_cfg (s : State) (c : CmdStatus) : (s.setCmdStatus c).cfg = s.cfg := rfl
@[simp] theorem State.setCmdStatus_ibuf (s : State) (c : CmdStatus) : (s.setCmdStatus c).ibuf = s.ibuf := rfl
@[simp] theorem State.setCmdStatus_draw (s : State) (c : CmdStatus) : (s.setCmdStatus c).draw = s.draw := rfl
@[simp] theorem State.setCmdStatus_cmdStatus (s : State) (c : CmdStatus) : (s.setCmdStatus c).cmdStatus = c := rfl
@[simp] theorem State.setCmdStatus_phase (s : State) (c : CmdStatus) : (s.setCmdStatus c).phase = s.phase := rfl
@[simp] theorem State.setCmdStatus_err (s : State) (c : CmdStatus) : (s.setCmdStatus c).err = s.err := rfl
@[simp] theorem State.setCmdStatus_ibufLen (s : State) (c : CmdStatus) : (s.setCmdStatus c).ibufLen = s.ibufLen := rfl
@[simp] theorem State.setCmdStatus_vcount (s : State) (c : CmdStatus) : (s.setCmdStatus c).vcount = s.vcount := rfl
@[simp] theorem State.setCmdStatus_tcount (s : State) (c : CmdStatus) : (s.setCmdStatus c).tcount = s.tcount := rfl
@[simp] theorem State.setCmdStatus_hdrEnd (s : State) (c : CmdStatus) : (s.setCmdStatus c).hdrEnd = s.hdrEnd := rfl
@[simp] theorem State.setCmdStatus_tailTrim (s : State) (c : CmdStatus) : (s.setCmdStatus c).tailTrim = s.tailTrim := rfl
@[simp] theorem State.setCmdStatus_vexp (s : State) (c : CmdStatus) : (s.setCmdStatus c).vexp = s.vexp := rfl
@[simp] theorem State.setCmdStatus_texp (s : State) (c : CmdStatus) : (s.setCmdStatus c).texp = s.texp := rfl
@[simp] theorem State.setCmdStatus_sofIdx (s : State) (c : CmdStatus) : (s.setCmdStatus c).sofIdx = s.sofIdx := rfl
@[simp] theorem State.setCmdStatus_eofIdx (s : State) (c : CmdStatus) : (s.setCmdStatus c).eofIdx = s.eofIdx := rfl
@[simp] theorem State.setCmdStatus_frameLen (s : State) (c : CmdStatus) : (s.setCmdStatus c).frameLen = s.frameLen := rfl
@[simp] theorem State.setCmdStatus_crcRetrieved (s : State) (c : CmdStatus) : (s.setCmdStatus c).crcRetrieved = s.crcRetrieved := rfl
@[simp] theorem State.setCmdStatus_crcComputed (s : State) (c : CmdStatus) : (s.setCmdStatus c).crcComputed = s.crcComputed := rfl
@[simp] theorem State.setCmdStatus_payloadOff (s : State) (c : CmdStatus) : (s.setCmdStatus c).payloadOff = s.payloadOff := rfl
@[simp] theorem State.setCmdStatus_payloadLen (s : State) (c : CmdStatus) : (s.setCmdStatus c).payloadLen = s.payloadLen := rfl
@[simp] theorem State.setCmdStatus_rdVcount (s : State) (c : CmdStatus) : (s.setCmdStatus c).rdVcount = s.rdVcount := rfl
@[simp] theorem State.setCmdStatus_rdTcount (s : State) (c : CmdStatus) : (s.setCmdStatus c).rdTcount = s.rdTcount := rfl
@[simp] theorem State.setCmdStatus_rdVexp (s : State) (c : CmdStatus) : (s.setCmdStatus c).rdVexp = s.rdVexp := rfl
@[simp] theorem State.setCmdStatus_rdTexp (s : State) (c : CmdStatus) : (s.setCmdStatus c).rdTexp = s.rdTexp := rfl
@[simp] theorem State.setCmdStatus_crcArgStart (s : State) (c : CmdStatus) : (s.setCmdStatus c).crcArgStart = s.crcArgStart := rfl
@[simp] theorem State.setCmdStatus_crcArgLen (s : State) (c : CmdStatus) : (s.setCmdStatus c).crcArgLen = s.crcArgLen := rfl
@[simp] theorem State.setCmdStatus_crcResult (s : State) (c : CmdStatus) : (s.setCmdStatus c).crcResult = s.crcResult := rfl
@[simp] theorem State.setCmdStatus_field (s : State) (c : CmdStatus) : (s.setCmdStatus c).field = s.field := rfl
@[simp] theorem State.setCmdStatus_port (s : State) (c : CmdStatus) : (s.setCmdStatus c).port = s.port := rfl
@[simp] theorem State.setCmdStatus_reply (s : State) (c : CmdStatus) : (s.setCmdStatus c).reply = s.reply := rfl
@[simp] theorem State.setCmdStatus_ibufByte (s : State) (c : CmdStatus) (k : Nat) : (s.setCmdStatus c).ibufByte k = s.ibufByte k := rfl
@[simp] theorem State.setCmdStatus_memRead2 (s : State) (c : CmdStatus) (k : Nat) : (s.setCmdStatus c).memRead2 k = s.memRead2 k := rfl
@[simp] theorem State.setCmdStatus_bufRange (s : State) (c : CmdStatus) (k m : Nat) : (s.setCmdStatus c).bufRange k m = s.bufRange k m := rfl

/-! `State.setPhase` -/

@[simp] theorem State.setPhase_cfg (s : State) (p : Phase) : (s.setPhase p).cfg = s.cfg := rfl
@[simp] theorem State.setPhase_ibuf (s : State) (p : Phase) : (s.setPhase p).ibuf = s.ibuf := rfl
@[simp] theorem State.setPhase_draw (s : State) (p : Phase) : (s.setPhase p).draw = s.draw := rfl
@[simp] theorem State.setPhase_cmdStatus (s : State) (p : Phase) : (s.setPhase p).cmdStatus = s.cmdStatus := rfl
@[simp] theorem State.setPhase_phase (s : State) (p : Phase) : (s.setPhase p).phase = p := rfl
@[simp] theorem State.setPhase_err (s : State) (p : Phase) : (s.setPhase p).err = s.err := rfl
@[simp] theorem State.setPhase_ibufLen (s : State) (p : Phase) : (s.setPhase p).ibufLen = s.ibufLen := rfl
@[simp] theorem State.setPhase_vcount (s : State) (p : Phase) : (s.setPhase p).vcount = s.vcount := rfl
@[simp] theorem State.setPhase_tcount (s : State) (p : Phase) : (s.setPhase p).tcount = s.tcount := rfl
@[simp] theorem State.setPhase_hdrEnd (s : State) (p : Phase) : (s.setPhase p).hdrEnd = s.hdrEnd := rfl
@[simp] theorem State.setPhase_tailTrim (s : State) (p : Phase) : (s.setPhase p).tailTrim = s.tailTrim := rfl
@[simp] theorem State.setPhase_vexp (s : State) (p : Phase) : (s.setPhase p).vexp = s.vexp := rfl
@[simp] theorem State.setPhase_texp (s : State) (p : Phase) : (s.setPhase p).texp = s.texp := rfl
@[simp] theorem State.setPhase_sofIdx (s : State) (p : Phase) : (s.setPhase p).sofIdx = s.sofIdx := rfl
@[simp] theorem State.setPhase_eofIdx (s : State) (p : Phase) : (s.setPhase p).eofIdx = s.eofIdx := rfl
@[simp] theorem State.setPhase_frameLen (s : State) (p : Phase) : (s.setPhase p).frameLen = s.frameLen := rfl
@[simp] theorem State.setPhase_crcRetrieved (s : State) (p : Phase) : (s.setPhase p).crcRetrieved = s.crcRetrieved := rfl
@[simp] theorem State.setPhase_crcComputed (s : State) (p : Phase) : (s.setPhase p).crcComputed = s.crcComputed := rfl
@[simp] theorem State.setPhase_payloadOff (s : State) (p : Phase) : (s.setPhase p).payloadOff = s.payloadOff := rfl
@[simp] theorem State.setPhase_payloadLen (s : State) (p : Phase) : (s.setPhase p).payloadLen = s.payloadLen := rfl
@[simp] theorem State.setPhase_rdVcount (s : State) (p : Phase) : (s.setPhase p).rdVcount = s.rdVcount := rfl
@[simp] theorem State.setPhase_rdTcount (s : State) (p : Phase) : (s.setPhase p).rdTcount = s.rdTcount := rfl
@[simp] theorem State.setPhase_rdVexp (s : State) (p : Phase) : (s.setPhase p).rdVexp = s.rdVexp := rfl
@[simp] theorem State.setPhase_rdTexp (s : State) (p : Phase) : (s.setPhase p).rdTexp = s.rdTexp := rfl
@[simp] theorem State.setPhase_crcArgStart (s : State) (p : Phase) : (s.setPhase p).crcArgStart = s.crcArgStart := rfl
@[simp] theorem State.setPhase_crcArgLen (s : State) (p : Phase) : (s.setPhase p).crcArgLen = s.crcArgLen := rfl
@[simp] theorem State.setPhase_crcResult (s : State) (p : Phase) : (s.setPhase p).crcResult = s.crcResult := rfl
@[simp] theorem State.setPhase_field (s : State) (p : Phase) : (s.setPhase p).field = s.field := rfl
@[simp] theorem State.setPhase_port (s : State) (p : Phase) : (s.setPhase p).port = s.port := rfl
@[simp] theorem State.setPhase_reply (s : State) (p : Phase) : (s.setPhase p).reply = s.reply := rfl
@[simp] theorem State.setPhase_ibufByte (s : State) (p : Phase) (k : Nat) : (s.setPhase p).ibufByte k = s.ibufByte k := rfl
@[simp] theorem State.setPhase_memRead2 (s : State) (p : Phase) (k : Nat) : (s.setPhase p).memRead2 k = s.memRead2 k := rfl
@[simp] theorem State.setPhase_bufRange (s : State) (p : Phase) (k m : Nat) : (s.setPhase p).bufRange k m = s.bufRange k m := rfl

/-! `State.clearResults` -/

@[simp] theorem State.clearResults_cfg (s : State) : (s.clearResults).cfg = s.cfg := rfl
@[simp] theorem State.clearResults_ibuf (s : State) : (s.clearResults).ibuf = s.ibuf := rfl
@[simp] theorem State.clearResults_draw (s : State) : (s.clearResults).draw = s.draw := rfl
@[simp] theorem State.clearResults_cmdStatus (s : State) : (s.clearResults).cmdStatus = s.cmdStatus := rfl
@[simp] theorem State.clearResults_phase (s : State) : (s.clearResults).phase = s.phase := rfl
@[simp] theorem State.clearResults_err (s : State) : (s.clearResults).err = .none := rfl
@[simp] theorem State.clearResults_ibufLen (s : State) : (s.clearResults).ibufLen = s.ibufLen := rfl
@[simp] theorem State.clearResults_vcount (s : State) : (s.clearResults).vcount = s.vcount := rfl
@[simp] theorem State.clearResults_tcount (s : State) : (s.clearResults).tcount = s.tcount := rfl
@[simp] theorem State.clearResults_hdrEnd (s : State) : (s.clearResults).hdrEnd = s.hdrEnd := rfl
@[simp] theorem State.clearResults_tailTrim (s : State) : (s.clearResults).tailTrim = s.tailTrim := rfl
@[simp] theorem State.clearResults_vexp (s : State) : (s.clearResults).vexp = s.vexp := rfl
@[simp] theorem State.clearResults_texp (s : State) : (s.clearResults).texp = s.texp := rfl
@[simp] theorem State.clearResults_sofIdx (s : State) : (s.clearResults).sofIdx = 0#16 := rfl
@[simp] theorem State.clearResults_eofIdx (s : State) : (s.clearResults).eofIdx = 0#16 := rfl
@[simp] theorem State.clearResults_frameLen (s : State) : (s.clearResults).frameLen = 0#16 := rfl
@[simp] theorem State.clearResults_crcRetrieved (s : State) : (s.clearResults).crcRetrieved = 0#16 := rfl
@[simp] theorem State.clearResults_crcComputed (s : State) : (s.clearResults).crcComputed = 0#16 := rfl
@[simp] theorem State.clearResults_payloadOff (s : State) : (s.clearResults).payloadOff = 0#16 := rfl
@[simp] theorem State.clearResults_payloadLen (s : State) : (s.clearResults).payloadLen = 0#16 := rfl
@[simp] theorem State.clearResults_rdVcount (s : State) : (s.clearResults).rdVcount = 0#16 := rfl
@[simp] theorem State.clearResults_rdTcount (s : State) : (s.clearResults).rdTcount = 0#16 := rfl
@[simp] theorem State.clearResults_rdVexp (s : State) : (s.clearResults).rdVexp = 0#2 := rfl
@[simp] theorem State.clearResults_rdTexp (s : State) : (s.clearResults).rdTexp = 0#2 := rfl
@[simp] theorem State.clearResults_crcArgStart (s : State) : (s.clearResults).crcArgStart = s.crcArgStart := rfl
@[simp] theorem State.clearResults_crcArgLen (s : State) : (s.clearResults).crcArgLen = s.crcArgLen := rfl
@[simp] theorem State.clearResults_crcResult (s : State) : (s.clearResults).crcResult = s.crcResult := rfl
@[simp] theorem State.clearResults_field (s : State) : (s.clearResults).field = List.replicate s.cfg.fieldCap 0#16 := rfl
@[simp] theorem State.clearResults_port (s : State) : (s.clearResults).port = s.port := rfl
@[simp] theorem State.clearResults_reply (s : State) : (s.clearResults).reply = s.reply := rfl
@[simp] theorem State.clearResults_ibufByte (s : State) (k : Nat) : (s.clearResults).ibufByte k = s.ibufByte k := rfl
@[simp] theorem State.clearResults_memRead2 (s : State) (k : Nat) : (s.clearResults).memRead2 k = s.memRead2 k := rfl
@[simp] theorem State.clearResults_bufRange (s : State) (k m : Nat) : (s.clearResults).bufRange k m = s.bufRange k m := rfl

/-! `State.raiseFailure` -/

@[simp] theorem State.raiseFailure_cfg (s : State) (c : Err) : (s.raiseFailure c).cfg = s.cfg := rfl
@[simp] theorem State.raiseFailure_ibuf (s : State) (c : Err) : (s.raiseFailure c).ibuf = s.ibuf := rfl
@[simp] theorem State.raiseFailure_draw (s : State) (c : Err) : (s.raiseFailure c).draw = s.draw := rfl
@[simp] theorem State.raiseFailure_cmdStatus (s : State) (c : Err) : (s.raiseFailure c).cmdStatus = s.cmdStatus := rfl
@[simp] theorem State.raiseFailure_phase (s : State) (c : Err) : (s.raiseFailure c).phase = .failed := rfl
@[simp] theorem State.raiseFailure_err (s : State) (c : Err) : (s.raiseFailure c).err = c := rfl
@[simp] theorem State.raiseFailure_ibufLen (s : State) (c : Err) : (s.raiseFailure c).ibufLen = s.ibufLen := rfl
@[simp] theorem State.raiseFailure_vcount (s : State) (c : Err) : (s.raiseFailure c).vcount = s.vcount := rfl
@[simp] theorem State.raiseFailure_tcount (s : State) (c : Err) : (s.raiseFailure c).tcount = s.tcount := rfl
@[simp] theorem State.raiseFailure_hdrEnd (s : State) (c : Err) : (s.raiseFailure c).hdrEnd = s.hdrEnd := rfl
@[simp] theorem State.raiseFailure_tailTrim (s : State) (c : Err) : (s.raiseFailure c).tailTrim = s.tailTrim := rfl
@[simp] theorem State.raiseFailure_vexp (s : State) (c : Err) : (s.raiseFailure c).vexp = s.vexp := rfl
@[simp] theorem State.raiseFailure_texp (s : State) (c : Err) : (s.raiseFailure c).texp = s.texp := rfl
@[simp] theorem State.raiseFailure_sofIdx (s : State) (c : Err) : (s.raiseFailure c).sofIdx = s.sofIdx := rfl
@[simp] theorem State.raiseFailure_eofIdx (s : State) (c : Err) : (s.raiseFailure c).eofIdx = s.eofIdx := rfl
@[simp] theorem State.raiseFailure_frameLen (s : State) (c : Err) : (s.raiseFailure c).frameLen = s.frameLen := rfl
@[simp] theorem State.raiseFailure_crcRetrieved (s : State) (c : Err) : (s.raiseFailure c).crcRetrieved = s.crcRetrieved := rfl
@[simp] theorem State.raiseFailure_crcComputed (s : State) (c : Err) : (s.raiseFailure c).crcComputed = s.crcComputed := rfl
@[simp] theorem State.raiseFailure_payloadOff (s : State) (c : Err) : (s.raiseFailure c).payloadOff = s.payloadOff := rfl
@[simp] theorem State.raiseFailure_payloadLen (s : State) (c : Err) : (s.raiseFailure c).payloadLen = s.payloadLen := rfl
@[simp] theorem State.raiseFailure_rdVcount (s : State) (c : Err) : (s.raiseFailure c).rdVcount = 0#16 := rfl
@[simp] theorem State.raiseFailure_rdTcount (s : State) (c : Err) : (s.raiseFailure c).rdTcount = 0#16 := rfl
@[simp] theorem State.raiseFailure_rdVexp (s : State) (c : Err) : (s.raiseFailure c).rdVexp = 0#2 := rfl
@[simp] theorem State.raiseFailure_rdTexp (s : State) (c : Err) : (s.raiseFailure c).rdTexp = 0#2 := rfl
@[simp] theorem State.raiseFailure_crcArgStart (s : State) (c : Err) : (s.raiseFailure c).crcArgStart = s.crcArgStart := rfl
@[simp] theorem State.raiseFailure_crcArgLen (s : State) (c : Err) : (s.raiseFailure c).crcArgLen = s.crcArgLen := rfl
@[simp] theorem State.raiseFailure_crcResult (s : State) (c : Err) : (s.raiseFailure c).crcResult = s.crcResult := rfl
@[simp] theorem State.raiseFailure_field (s : State) (c : Err) : (s.raiseFailure c).field = List.replicate s.cfg.fieldCap 0#16 := rfl
@[simp] theorem State.raiseFailure_port (s : State) (c : Err) : (s.raiseFailure c).port = s.port := rfl
@[simp] theorem State.raiseFailure_reply (s : State) (c : Err) : (s.raiseFailure c).reply = s.reply := rfl
@[simp] theorem State.raiseFailure_ibufByte (s : State) (c : Err) (k : Nat) : (s.raiseFailure c).ibufByte k = s.ibufByte k := rfl
@[simp] theorem State.raiseFailure_memRead2 (s : State) (c : Err) (k : Nat) : (s.raiseFailure c).memRead2 k = s.memRead2 k := rfl
@[simp] theorem State.raiseFailure_bufRange (s : State) (c : Err) (k m : Nat) : (s.raiseFailure c).bufRange k m = s.bufRange k m := rfl

/-! `State.raiseCmdError` -/

@[simp] theorem State.raiseCmdError_cfg (s : State) (c : CmdStatus) : (s.raiseCmdError c).cfg = s.cfg := rfl
@[simp] theorem State.raiseCmdError_ibuf (s : State) (c : CmdStatus) : (s.raiseCmdError c).ibuf = s.ibuf := rfl
@[simp] theorem State.raiseCmdError_draw (s : State) (c : CmdStatus) : (s.raiseCmdError c).draw = s.draw := rfl
@[simp] theorem State.raiseCmdError_cmdStatus (s : State) (c : CmdStatus) : (s.raiseCmdError c).cmdStatus = c := rfl
@[simp] theorem State.raiseCmdError_phase (s : State) (c : CmdStatus) : (s.raiseCmdError c).phase = s.phase := rfl
@[simp] theorem State.raiseCmdError_err (s : State) (c : CmdStatus) : (s.raiseCmdError c).err = s.err := rfl
@[simp] theorem State.raiseCmdError_ibufLen (s : State) (c : CmdStatus) : (s.raiseCmdError c).ibufLen = s.ibufLen := rfl
@[simp] theorem State.raiseCmdError_vcount (s : State) (c : CmdStatus) : (s.raiseCmdError c).vcount = s.vcount := rfl
@[simp] theorem State.raiseCmdError_tcount (s : State) (c : CmdStatus) : (s.raiseCmdError c).tcount = s.tcount := rfl
@[simp] theorem State.raiseCmdError_hdrEnd (s : State) (c : CmdStatus) : (s.raiseCmdError c).hdrEnd = s.hdrEnd := rfl
@[simp] theorem State.raiseCmdError_tailTrim (s : State) (c : CmdStatus) : (s.raiseCmdError c).tailTrim = s.tailTrim := rfl
@[simp] theorem State.raiseCmdError_vexp (s : State) (c : CmdStatus) : (s.raiseCmdError c).vexp = s.vexp := rfl
@[simp] theorem State.raiseCmdError_texp (s : State) (c : CmdStatus) : (s.raiseCmdError c).texp = s.texp := rfl
@[simp] theorem State.raiseCmdError_sofIdx (s : State) (c : CmdStatus) : (s.raiseCmdError c).sofIdx = s.sofIdx := rfl
@[simp] theorem State.raiseCmdError_eofIdx (s : State) (c : CmdStatus) : (s.raiseCmdError c).eofIdx = s.eofIdx := rfl
@[simp] theorem State.raiseCmdError_frameLen (s : State) (c : CmdStatus) : (s.raiseCmdError c).frameLen = s.frameLen := rfl
@[simp] theorem State.raiseCmdError_crcRetrieved (s : State) (c : CmdStatus) : (s.raiseCmdError c).crcRetrieved = s.crcRetrieved := rfl
@[simp] theorem State.raiseCmdError_crcComputed (s : State) (c : CmdStatus) : (s.raiseCmdError c).crcComputed = s.crcComputed := rfl
@[simp] theorem State.raiseCmdError_payloadOff (s : State) (c : CmdStatus) : (s.raiseCmdError c).payloadOff = s.payloadOff := rfl
@[simp] theorem State.raiseCmdError_payloadLen (s : State) (c : CmdStatus) : (s.raiseCmdError c).payloadLen = s.payloadLen := rfl
@[simp] theorem State.raiseCmdError_rdVcount (s : State) (c : CmdStatus) : (s.raiseCmdError c).rdVcount = s.rdVcount := rfl
@[simp] theorem State.raiseCmdError_rdTcount (s : State) (c : CmdStatus) : (s.raiseCmdError c).rdTcount = s.rdTcount := rfl
@[simp] theorem State.raiseCmdError_rdVexp (s : State) (c : CmdStatus) : (s.raiseCmdError c).rdVexp = s.rdVexp := rfl
@[simp] theorem State.raiseCmdError_rdTexp (s : State) (c : CmdStatus) : (s.raiseCmdError c).rdTexp = s.rdTexp := rfl
@[simp] theorem State.raiseCmdError_crcArgStart (s : State) (c : CmdStatus) : (s.raiseCmdError c).crcArgStart = s.crcArgStart := rfl
@[simp] theorem State.raiseCmdError_crcArgLen (s : State) (c : CmdStatus) : (s.raiseCmdError c).crcArgLen = s.crcArgLen := rfl
@[simp] theorem State.raiseCmdError_crcResult (s : State) (c : CmdStatus) : (s.raiseCmdError c).crcResult = s.crcResult := rfl
@[simp] theorem State.raiseCmdError_field (s : State) (c : CmdStatus) : (s.raiseCmdError c).field = s.field := rfl
@[simp] theorem State.raiseCmdError_port (s : State) (c : CmdStatus) : (s.raiseCmdError c).port = s.port := rfl
@[simp] theorem State.raiseCmdError_reply (s : State) (c : CmdStatus) : (s.raiseCmdError c).reply = s.reply := rfl
@[simp] theorem State.raiseCmdError_ibufByte (s : State) (c : CmdStatus) (k : Nat) : (s.raiseCmdError c).ibufByte k = s.ibufByte k := rfl
@[simp] theorem State.raiseCmdError_memRead2 (s : State) (c : CmdStatus) (k : Nat) : (s.raiseCmdError c).memRead2 k = s.memRead2 k := rfl
@[simp] theorem State.raiseCmdError_bufRange (s : State) (c : CmdStatus) (k m : Nat) : (s.raiseCmdError c).bufRange k m = s.bufRange k m := rfl

/-! `State.toIdle` -/

@[simp] theorem State.toIdle_cfg (s : State) : (s.toIdle).cfg = s.cfg := rfl
@[simp] theorem State.toIdle_ibuf (s : State) : (s.toIdle).ibuf = s.ibuf := rfl
@[simp] theorem State.toIdle_draw (s : State) : (s.toIdle).draw = s.draw := rfl
@[simp] theorem State.toIdle_cmdStatus (s : State) : (s.toIdle).cmdStatus = s.cmdStatus := rfl
@[simp] theorem State.toIdle_phase (s : State) : (s.toIdle).phase = .idle := rfl
@[simp] theorem State.toIdle_err (s : State) : (s.toIdle).err = .none := rfl
@[simp] theorem State.toIdle_ibufLen (s : State) : (s.toIdle).ibufLen = s.ibufLen := rfl
@[simp] theorem State.toIdle_vcount (s : State) : (s.toIdle).vcount = s.vcount := rfl
@[simp] theorem State.toIdle_tcount (s : State) : (s.toIdle).tcount = s.tcount := rfl
@[simp] theorem State.toIdle_hdrEnd (s : State) : (s.toIdle).hdrEnd = s.hdrEnd := rfl
@[simp] theorem State.toIdle_tailTrim (s : State) : (s.toIdle).tailTrim = s.tailTrim := rfl
@[simp] theorem State.toIdle_vexp (s : State) : (s.toIdle).vexp = s.vexp := rfl
@[simp] theorem State.toIdle_texp (s : State) : (s.toIdle).texp = s.texp := rfl
@[simp] theorem State.toIdle_sofIdx (s : State) : (s.toIdle).sofIdx = 0#16 := rfl
@[simp] theorem State.toIdle_eofIdx (s : State) : (s.toIdle).eofIdx = 0#16 := rfl
@[simp] theorem State.toIdle_frameLen (s : State) : (s.toIdle).frameLen = 0#16 := rfl
@[simp] theorem State.toIdle_crcRetrieved (s : State) : (s.toIdle).crcRetrieved = 0#16 := rfl
@[simp] theorem State.toIdle_crcComputed (s : State) : (s.toIdle).crcComputed = 0#16 := rfl
@[simp] theorem State.toIdle_payloadOff (s : State) : (s.toIdle).payloadOff = 0#16 := rfl
@[simp] theorem State.toIdle_payloadLen (s : State) : (s.toIdle).payloadLen = 0#16 := rfl
@[simp] theorem State.toIdle_rdVcount (s : State) : (s.toIdle).rdVcount = 0#16 := rfl
@[simp] theorem State.toIdle_rdTcount (s : State) : (s.toIdle).rdTcount = 0#16 := rfl
@[simp] theorem State.toIdle_rdVexp (s : State) : (s.toIdle).rdVexp = 0#2 := rfl
@[simp] theorem State.toIdle_rdTexp (s : State) : (s.toIdle).rdTexp = 0#2 := rfl
@[simp] theorem State.toIdle_crcArgStart (s : State) : (s.toIdle).crcArgStart = s.crcArgStart := rfl
@[simp] theorem State.toIdle_crcArgLen (s : State) : (s.toIdle).crcArgLen = s.crcArgLen := rfl
@[simp] theorem State.toIdle_crcResult (s : State) : (s.toIdle).crcResult = s.crcResult := rfl
@[simp] theorem State.toIdle_field (s : State) : (s.toIdle).field = List.replicate s.cfg.fieldCap 0#16 := rfl
@[simp] theorem State.toIdle_port (s : State) : (s.toIdle).port = s.port := rfl
@[simp] theorem State.toIdle_reply (s : State) : (s.toIdle).reply = s.reply := rfl
@[simp] theorem State.toIdle_ibufByte (s : State) (k : Nat) : (s.toIdle).ibufByte k = s.ibufByte k := rfl
@[simp] theorem State.toIdle_memRead2 (s : State) (k : Nat) : (s.toIdle).memRead2 k = s.memRead2 k := rfl
@[simp] theorem State.toIdle_bufRange (s : State) (k m : Nat) : (s.toIdle).bufRange k m = s.bufRange k m := rfl

/-! `State.holdSof` -/

@[simp] theorem State.holdSof_cfg (s : State) (i : Nat) : (s.holdSof i).cfg = s.cfg := rfl
@[simp] theorem State.holdSof_ibuf (s : State) (i : Nat) : (s.holdSof i).ibuf = s.ibuf := rfl
@[simp] theorem State.holdSof_draw (s : State) (i : Nat) : (s.holdSof i).draw = s.draw := rfl
@[simp] theorem State.holdSof_cmdStatus (s : State) (i : Nat) : (s.holdSof i).cmdStatus = s.cmdStatus := rfl
@[simp] theorem State.holdSof_phase (s : State) (i : Nat) : (s.holdSof i).phase = s.phase := rfl
@[simp] theorem State.holdSof_err (s : State) (i : Nat) : (s.holdSof i).err = s.err := rfl
@[simp] theorem State.holdSof_ibufLen (s : State) (i : Nat) : (s.holdSof i).ibufLen = s.ibufLen := rfl
@[simp] theorem State.holdSof_vcount (s : State) (i : Nat) : (s.holdSof i).vcount = s.vcount := rfl
@[simp] theorem State.holdSof_tcount (s : State) (i : Nat) : (s.holdSof i).tcount = s.tcount := rfl
@[simp] theorem State.holdSof_hdrEnd (s : State) (i : Nat) : (s.holdSof i).hdrEnd = s.hdrEnd := rfl
@[simp] theorem State.holdSof_tailTrim (s : State) (i : Nat) : (s.holdSof i).tailTrim = s.tailTrim := rfl
@[simp] theorem State.holdSof_vexp (s : State) (i : Nat) : (s.holdSof i).vexp = s.vexp := rfl
@[simp] theorem State.holdSof_texp (s : State) (i : Nat) : (s.holdSof i).texp = s.texp := rfl
@[simp] theorem State.holdSof_sofIdx (s : State) (i : Nat) : (s.holdSof i).sofIdx = index16 i := rfl
@[simp] theorem State.holdSof_eofIdx (s : State) (i : Nat) : (s.holdSof i).eofIdx = s.eofIdx := rfl
@[simp] theorem State.holdSof_frameLen (s : State) (i : Nat) : (s.holdSof i).frameLen = s.frameLen := rfl
@[simp] theorem State.holdSof_crcRetrieved (s : State) (i : Nat) : (s.holdSof i).crcRetrieved = s.crcRetrieved := rfl
@[simp] theorem State.holdSof_crcComputed (s : State) (i : Nat) : (s.holdSof i).crcComputed = s.crcComputed := rfl
@[simp] theorem State.holdSof_payloadOff (s : State) (i : Nat) : (s.holdSof i).payloadOff = s.payloadOff := rfl
@[simp] theorem State.holdSof_payloadLen (s : State) (i : Nat) : (s.holdSof i).payloadLen = s.payloadLen := rfl
@[simp] theorem State.holdSof_rdVcount (s : State) (i : Nat) : (s.holdSof i).rdVcount = s.rdVcount := rfl
@[simp] theorem State.holdSof_rdTcount (s : State) (i : Nat) : (s.holdSof i).rdTcount = s.rdTcount := rfl
@[simp] theorem State.holdSof_rdVexp (s : State) (i : Nat) : (s.holdSof i).rdVexp = s.rdVexp := rfl
@[simp] theorem State.holdSof_rdTexp (s : State) (i : Nat) : (s.holdSof i).rdTexp = s.rdTexp := rfl
@[simp] theorem State.holdSof_crcArgStart (s : State) (i : Nat) : (s.holdSof i).crcArgStart = s.crcArgStart := rfl
@[simp] theorem State.holdSof_crcArgLen (s : State) (i : Nat) : (s.holdSof i).crcArgLen = s.crcArgLen := rfl
@[simp] theorem State.holdSof_crcResult (s : State) (i : Nat) : (s.holdSof i).crcResult = s.crcResult := rfl
@[simp] theorem State.holdSof_field (s : State) (i : Nat) : (s.holdSof i).field = s.field := rfl
@[simp] theorem State.holdSof_port (s : State) (i : Nat) : (s.holdSof i).port = s.port := rfl
@[simp] theorem State.holdSof_reply (s : State) (i : Nat) : (s.holdSof i).reply = s.reply := rfl
@[simp] theorem State.holdSof_ibufByte (s : State) (i : Nat) (k : Nat) : (s.holdSof i).ibufByte k = s.ibufByte k := rfl
@[simp] theorem State.holdSof_memRead2 (s : State) (i : Nat) (k : Nat) : (s.holdSof i).memRead2 k = s.memRead2 k := rfl
@[simp] theorem State.holdSof_bufRange (s : State) (i : Nat) (k m : Nat) : (s.holdSof i).bufRange k m = s.bufRange k m := rfl

/-! `State.holdFrame` -/

@[simp] theorem State.holdFrame_cfg (s : State) (e n : Nat) : (s.holdFrame e n).cfg = s.cfg := rfl
@[simp] theorem State.holdFrame_ibuf (s : State) (e n : Nat) : (s.holdFrame e n).ibuf = s.ibuf := rfl
@[simp] theorem State.holdFrame_draw (s : State) (e n : Nat) : (s.holdFrame e n).draw = s.draw := rfl
@[simp] theorem State.holdFrame_cmdStatus (s : State) (e n : Nat) : (s.holdFrame e n).cmdStatus = s.cmdStatus := rfl
@[simp] theorem State.holdFrame_phase (s : State) (e n : Nat) : (s.holdFrame e n).phase = .verifying := rfl
@[simp] theorem State.holdFrame_err (s : State) (e n : Nat) : (s.holdFrame e n).err = s.err := rfl
@[simp] theorem State.holdFrame_ibufLen (s : State) (e n : Nat) : (s.holdFrame e n).ibufLen = s.ibufLen := rfl
@[simp] theorem State.holdFrame_vcount (s : State) (e n : Nat) : (s.holdFrame e n).vcount = s.vcount := rfl
@[simp] theorem State.holdFrame_tcount (s : State) (e n : Nat) : (s.holdFrame e n).tcount = s.tcount := rfl
@[simp] theorem State.holdFrame_hdrEnd (s : State) (e n : Nat) : (s.holdFrame e n).hdrEnd = s.hdrEnd := rfl
@[simp] theorem State.holdFrame_tailTrim (s : State) (e n : Nat) : (s.holdFrame e n).tailTrim = s.tailTrim := rfl
@[simp] theorem State.holdFrame_vexp (s : State) (e n : Nat) : (s.holdFrame e n).vexp = s.vexp := rfl
@[simp] theorem State.holdFrame_texp (s : State) (e n : Nat) : (s.holdFrame e n).texp = s.texp := rfl
@[simp] theorem State.holdFrame_sofIdx (s : State) (e n : Nat) : (s.holdFrame e n).sofIdx = s.sofIdx := rfl
@[simp] theorem State.holdFrame_eofIdx (s : State) (e n : Nat) : (s.holdFrame e n).eofIdx = index16 e := rfl
@[simp] theorem State.holdFrame_frameLen (s : State) (e n : Nat) : (s.holdFrame e n).frameLen = index16 n := rfl
@[simp] theorem State.holdFrame_crcRetrieved (s : State) (e n : Nat) : (s.holdFrame e n).crcRetrieved = s.crcRetrieved := rfl
@[simp] theorem State.holdFrame_crcComputed (s : State) (e n : Nat) : (s.holdFrame e n).crcComputed = s.crcComputed := rfl
@[simp] theorem State.holdFrame_payloadOff (s : State) (e n : Nat) : (s.holdFrame e n).payloadOff = s.payloadOff := rfl
@[simp] theorem State.holdFrame_payloadLen (s : State) (e n : Nat) : (s.holdFrame e n).payloadLen = s.payloadLen := rfl
@[simp] theorem State.holdFrame_rdVcount (s : State) (e n : Nat) : (s.holdFrame e n).rdVcount = s.rdVcount := rfl
@[simp] theorem State.holdFrame_rdTcount (s : State) (e n : Nat) : (s.holdFrame e n).rdTcount = s.rdTcount := rfl
@[simp] theorem State.holdFrame_rdVexp (s : State) (e n : Nat) : (s.holdFrame e n).rdVexp = s.rdVexp := rfl
@[simp] theorem State.holdFrame_rdTexp (s : State) (e n : Nat) : (s.holdFrame e n).rdTexp = s.rdTexp := rfl
@[simp] theorem State.holdFrame_crcArgStart (s : State) (e n : Nat) : (s.holdFrame e n).crcArgStart = s.crcArgStart := rfl
@[simp] theorem State.holdFrame_crcArgLen (s : State) (e n : Nat) : (s.holdFrame e n).crcArgLen = s.crcArgLen := rfl
@[simp] theorem State.holdFrame_crcResult (s : State) (e n : Nat) : (s.holdFrame e n).crcResult = s.crcResult := rfl
@[simp] theorem State.holdFrame_field (s : State) (e n : Nat) : (s.holdFrame e n).field = s.field := rfl
@[simp] theorem State.holdFrame_port (s : State) (e n : Nat) : (s.holdFrame e n).port = s.port := rfl
@[simp] theorem State.holdFrame_reply (s : State) (e n : Nat) : (s.holdFrame e n).reply = s.reply := rfl
@[simp] theorem State.holdFrame_ibufByte (s : State) (e n : Nat) (k : Nat) : (s.holdFrame e n).ibufByte k = s.ibufByte k := rfl
@[simp] theorem State.holdFrame_memRead2 (s : State) (e n : Nat) (k : Nat) : (s.holdFrame e n).memRead2 k = s.memRead2 k := rfl
@[simp] theorem State.holdFrame_bufRange (s : State) (e n : Nat) (k m : Nat) : (s.holdFrame e n).bufRange k m = s.bufRange k m := rfl

/-! `State.holdCrcs` -/

@[simp] theorem State.holdCrcs_cfg (s : State) (r c : Word) : (s.holdCrcs r c).cfg = s.cfg := rfl
@[simp] theorem State.holdCrcs_ibuf (s : State) (r c : Word) : (s.holdCrcs r c).ibuf = s.ibuf := rfl
@[simp] theorem State.holdCrcs_draw (s : State) (r c : Word) : (s.holdCrcs r c).draw = s.draw := rfl
@[simp] theorem State.holdCrcs_cmdStatus (s : State) (r c : Word) : (s.holdCrcs r c).cmdStatus = s.cmdStatus := rfl
@[simp] theorem State.holdCrcs_phase (s : State) (r c : Word) : (s.holdCrcs r c).phase = s.phase := rfl
@[simp] theorem State.holdCrcs_err (s : State) (r c : Word) : (s.holdCrcs r c).err = s.err := rfl
@[simp] theorem State.holdCrcs_ibufLen (s : State) (r c : Word) : (s.holdCrcs r c).ibufLen = s.ibufLen := rfl
@[simp] theorem State.holdCrcs_vcount (s : State) (r c : Word) : (s.holdCrcs r c).vcount = s.vcount := rfl
@[simp] theorem State.holdCrcs_tcount (s : State) (r c : Word) : (s.holdCrcs r c).tcount = s.tcount := rfl
@[simp] theorem State.holdCrcs_hdrEnd (s : State) (r c : Word) : (s.holdCrcs r c).hdrEnd = s.hdrEnd := rfl
@[simp] theorem State.holdCrcs_tailTrim (s : State) (r c : Word) : (s.holdCrcs r c).tailTrim = s.tailTrim := rfl
@[simp] theorem State.holdCrcs_vexp (s : State) (r c : Word) : (s.holdCrcs r c).vexp = s.vexp := rfl
@[simp] theorem State.holdCrcs_texp (s : State) (r c : Word) : (s.holdCrcs r c).texp = s.texp := rfl
@[simp] theorem State.holdCrcs_sofIdx (s : State) (r c : Word) : (s.holdCrcs r c).sofIdx = s.sofIdx := rfl
@[simp] theorem State.holdCrcs_eofIdx (s : State) (r c : Word) : (s.holdCrcs r c).eofIdx = s.eofIdx := rfl
@[simp] theorem State.holdCrcs_frameLen (s : State) (r c : Word) : (s.holdCrcs r c).frameLen = s.frameLen := rfl
@[simp] theorem State.holdCrcs_crcRetrieved (s : State) (r c : Word) : (s.holdCrcs r c).crcRetrieved = r := rfl
@[simp] theorem State.holdCrcs_crcComputed (s : State) (r c : Word) : (s.holdCrcs r c).crcComputed = c := rfl
@[simp] theorem State.holdCrcs_payloadOff (s : State) (r c : Word) : (s.holdCrcs r c).payloadOff = s.payloadOff := rfl
@[simp] theorem State.holdCrcs_payloadLen (s : State) (r c : Word) : (s.holdCrcs r c).payloadLen = s.payloadLen := rfl
@[simp] theorem State.holdCrcs_rdVcount (s : State) (r c : Word) : (s.holdCrcs r c).rdVcount = s.rdVcount := rfl
@[simp] theorem State.holdCrcs_rdTcount (s : State) (r c : Word) : (s.holdCrcs r c).rdTcount = s.rdTcount := rfl
@[simp] theorem State.holdCrcs_rdVexp (s : State) (r c : Word) : (s.holdCrcs r c).rdVexp = s.rdVexp := rfl
@[simp] theorem State.holdCrcs_rdTexp (s : State) (r c : Word) : (s.holdCrcs r c).rdTexp = s.rdTexp := rfl
@[simp] theorem State.holdCrcs_crcArgStart (s : State) (r c : Word) : (s.holdCrcs r c).crcArgStart = s.crcArgStart := rfl
@[simp] theorem State.holdCrcs_crcArgLen (s : State) (r c : Word) : (s.holdCrcs r c).crcArgLen = s.crcArgLen := rfl
@[simp] theorem State.holdCrcs_crcResult (s : State) (r c : Word) : (s.holdCrcs r c).crcResult = s.crcResult := rfl
@[simp] theorem State.holdCrcs_field (s : State) (r c : Word) : (s.holdCrcs r c).field = s.field := rfl
@[simp] theorem State.holdCrcs_port (s : State) (r c : Word) : (s.holdCrcs r c).port = s.port := rfl
@[simp] theorem State.holdCrcs_reply (s : State) (r c : Word) : (s.holdCrcs r c).reply = s.reply := rfl
@[simp] theorem State.holdCrcs_ibufByte (s : State) (r c : Word) (k : Nat) : (s.holdCrcs r c).ibufByte k = s.ibufByte k := rfl
@[simp] theorem State.holdCrcs_memRead2 (s : State) (r c : Word) (k : Nat) : (s.holdCrcs r c).memRead2 k = s.memRead2 k := rfl
@[simp] theorem State.holdCrcs_bufRange (s : State) (r c : Word) (k m : Nat) : (s.holdCrcs r c).bufRange k m = s.bufRange k m := rfl

/-! `State.holdPayload` -/

@[simp] theorem State.holdPayload_cfg (s : State) (o n : Nat) : (s.holdPayload o n).cfg = s.cfg := rfl
@[simp] theorem State.holdPayload_ibuf (s : State) (o n : Nat) : (s.holdPayload o n).ibuf = s.ibuf := rfl
@[simp] theorem State.holdPayload_draw (s : State) (o n : Nat) : (s.holdPayload o n).draw = s.draw := rfl
@[simp] theorem State.holdPayload_cmdStatus (s : State) (o n : Nat) : (s.holdPayload o n).cmdStatus = s.cmdStatus := rfl
@[simp] theorem State.holdPayload_phase (s : State) (o n : Nat) : (s.holdPayload o n).phase = .decoding := rfl
@[simp] theorem State.holdPayload_err (s : State) (o n : Nat) : (s.holdPayload o n).err = s.err := rfl
@[simp] theorem State.holdPayload_ibufLen (s : State) (o n : Nat) : (s.holdPayload o n).ibufLen = s.ibufLen := rfl
@[simp] theorem State.holdPayload_vcount (s : State) (o n : Nat) : (s.holdPayload o n).vcount = s.vcount := rfl
@[simp] theorem State.holdPayload_tcount (s : State) (o n : Nat) : (s.holdPayload o n).tcount = s.tcount := rfl
@[simp] theorem State.holdPayload_hdrEnd (s : State) (o n : Nat) : (s.holdPayload o n).hdrEnd = s.hdrEnd := rfl
@[simp] theorem State.holdPayload_tailTrim (s : State) (o n : Nat) : (s.holdPayload o n).tailTrim = s.tailTrim := rfl
@[simp] theorem State.holdPayload_vexp (s : State) (o n : Nat) : (s.holdPayload o n).vexp = s.vexp := rfl
@[simp] theorem State.holdPayload_texp (s : State) (o n : Nat) : (s.holdPayload o n).texp = s.texp := rfl
@[simp] theorem State.holdPayload_sofIdx (s : State) (o n : Nat) : (s.holdPayload o n).sofIdx = s.sofIdx := rfl
@[simp] theorem State.holdPayload_eofIdx (s : State) (o n : Nat) : (s.holdPayload o n).eofIdx = s.eofIdx := rfl
@[simp] theorem State.holdPayload_frameLen (s : State) (o n : Nat) : (s.holdPayload o n).frameLen = s.frameLen := rfl
@[simp] theorem State.holdPayload_crcRetrieved (s : State) (o n : Nat) : (s.holdPayload o n).crcRetrieved = s.crcRetrieved := rfl
@[simp] theorem State.holdPayload_crcComputed (s : State) (o n : Nat) : (s.holdPayload o n).crcComputed = s.crcComputed := rfl
@[simp] theorem State.holdPayload_payloadOff (s : State) (o n : Nat) : (s.holdPayload o n).payloadOff = index16 o := rfl
@[simp] theorem State.holdPayload_payloadLen (s : State) (o n : Nat) : (s.holdPayload o n).payloadLen = index16 n := rfl
@[simp] theorem State.holdPayload_rdVcount (s : State) (o n : Nat) : (s.holdPayload o n).rdVcount = s.rdVcount := rfl
@[simp] theorem State.holdPayload_rdTcount (s : State) (o n : Nat) : (s.holdPayload o n).rdTcount = s.rdTcount := rfl
@[simp] theorem State.holdPayload_rdVexp (s : State) (o n : Nat) : (s.holdPayload o n).rdVexp = s.rdVexp := rfl
@[simp] theorem State.holdPayload_rdTexp (s : State) (o n : Nat) : (s.holdPayload o n).rdTexp = s.rdTexp := rfl
@[simp] theorem State.holdPayload_crcArgStart (s : State) (o n : Nat) : (s.holdPayload o n).crcArgStart = s.crcArgStart := rfl
@[simp] theorem State.holdPayload_crcArgLen (s : State) (o n : Nat) : (s.holdPayload o n).crcArgLen = s.crcArgLen := rfl
@[simp] theorem State.holdPayload_crcResult (s : State) (o n : Nat) : (s.holdPayload o n).crcResult = s.crcResult := rfl
@[simp] theorem State.holdPayload_field (s : State) (o n : Nat) : (s.holdPayload o n).field = s.field := rfl
@[simp] theorem State.holdPayload_port (s : State) (o n : Nat) : (s.holdPayload o n).port = s.port := rfl
@[simp] theorem State.holdPayload_reply (s : State) (o n : Nat) : (s.holdPayload o n).reply = s.reply := rfl
@[simp] theorem State.holdPayload_ibufByte (s : State) (o n : Nat) (k : Nat) : (s.holdPayload o n).ibufByte k = s.ibufByte k := rfl
@[simp] theorem State.holdPayload_memRead2 (s : State) (o n : Nat) (k : Nat) : (s.holdPayload o n).memRead2 k = s.memRead2 k := rfl
@[simp] theorem State.holdPayload_bufRange (s : State) (o n : Nat) (k m : Nat) : (s.holdPayload o n).bufRange k m = s.bufRange k m := rfl

/-! `State.holdReading` -/

@[simp] theorem State.holdReading_cfg (s : State) (l : List Word) : (s.holdReading l).cfg = s.cfg := rfl
@[simp] theorem State.holdReading_ibuf (s : State) (l : List Word) : (s.holdReading l).ibuf = s.ibuf := rfl
@[simp] theorem State.holdReading_draw (s : State) (l : List Word) : (s.holdReading l).draw = s.draw := rfl
@[simp] theorem State.holdReading_cmdStatus (s : State) (l : List Word) : (s.holdReading l).cmdStatus = s.cmdStatus := rfl
@[simp] theorem State.holdReading_phase (s : State) (l : List Word) : (s.holdReading l).phase = .ready := rfl
@[simp] theorem State.holdReading_err (s : State) (l : List Word) : (s.holdReading l).err = s.err := rfl
@[simp] theorem State.holdReading_ibufLen (s : State) (l : List Word) : (s.holdReading l).ibufLen = s.ibufLen := rfl
@[simp] theorem State.holdReading_vcount (s : State) (l : List Word) : (s.holdReading l).vcount = s.vcount := rfl
@[simp] theorem State.holdReading_tcount (s : State) (l : List Word) : (s.holdReading l).tcount = s.tcount := rfl
@[simp] theorem State.holdReading_hdrEnd (s : State) (l : List Word) : (s.holdReading l).hdrEnd = s.hdrEnd := rfl
@[simp] theorem State.holdReading_tailTrim (s : State) (l : List Word) : (s.holdReading l).tailTrim = s.tailTrim := rfl
@[simp] theorem State.holdReading_vexp (s : State) (l : List Word) : (s.holdReading l).vexp = s.vexp := rfl
@[simp] theorem State.holdReading_texp (s : State) (l : List Word) : (s.holdReading l).texp = s.texp := rfl
@[simp] theorem State.holdReading_sofIdx (s : State) (l : List Word) : (s.holdReading l).sofIdx = s.sofIdx := rfl
@[simp] theorem State.holdReading_eofIdx (s : State) (l : List Word) : (s.holdReading l).eofIdx = s.eofIdx := rfl
@[simp] theorem State.holdReading_frameLen (s : State) (l : List Word) : (s.holdReading l).frameLen = s.frameLen := rfl
@[simp] theorem State.holdReading_crcRetrieved (s : State) (l : List Word) : (s.holdReading l).crcRetrieved = s.crcRetrieved := rfl
@[simp] theorem State.holdReading_crcComputed (s : State) (l : List Word) : (s.holdReading l).crcComputed = s.crcComputed := rfl
@[simp] theorem State.holdReading_payloadOff (s : State) (l : List Word) : (s.holdReading l).payloadOff = s.payloadOff := rfl
@[simp] theorem State.holdReading_payloadLen (s : State) (l : List Word) : (s.holdReading l).payloadLen = s.payloadLen := rfl
@[simp] theorem State.holdReading_rdVcount (s : State) (l : List Word) : (s.holdReading l).rdVcount = s.vcount := rfl
@[simp] theorem State.holdReading_rdTcount (s : State) (l : List Word) : (s.holdReading l).rdTcount = s.tcount := rfl
@[simp] theorem State.holdReading_rdVexp (s : State) (l : List Word) : (s.holdReading l).rdVexp = s.vexp := rfl
@[simp] theorem State.holdReading_rdTexp (s : State) (l : List Word) : (s.holdReading l).rdTexp = s.texp := rfl
@[simp] theorem State.holdReading_crcArgStart (s : State) (l : List Word) : (s.holdReading l).crcArgStart = s.crcArgStart := rfl
@[simp] theorem State.holdReading_crcArgLen (s : State) (l : List Word) : (s.holdReading l).crcArgLen = s.crcArgLen := rfl
@[simp] theorem State.holdReading_crcResult (s : State) (l : List Word) : (s.holdReading l).crcResult = s.crcResult := rfl
@[simp] theorem State.holdReading_field (s : State) (l : List Word) : (s.holdReading l).field = l ++ s.field.drop l.length := rfl
@[simp] theorem State.holdReading_port (s : State) (l : List Word) : (s.holdReading l).port = s.port := rfl
@[simp] theorem State.holdReading_reply (s : State) (l : List Word) : (s.holdReading l).reply = s.reply := rfl
@[simp] theorem State.holdReading_ibufByte (s : State) (l : List Word) (k : Nat) : (s.holdReading l).ibufByte k = s.ibufByte k := rfl
@[simp] theorem State.holdReading_memRead2 (s : State) (l : List Word) (k : Nat) : (s.holdReading l).memRead2 k = s.memRead2 k := rfl
@[simp] theorem State.holdReading_bufRange (s : State) (l : List Word) (k m : Nat) : (s.holdReading l).bufRange k m = s.bufRange k m := rfl

/-! `State.take` -/

@[simp] theorem State.take_cfg (s : State) (l : List PortEvent) : (s.take l).cfg = s.cfg := rfl
@[simp] theorem State.take_ibuf (s : State) (l : List PortEvent) : (s.take l).ibuf = s.ibuf := rfl
@[simp] theorem State.take_draw (s : State) (l : List PortEvent) : (s.take l).draw = s.draw := rfl
@[simp] theorem State.take_cmdStatus (s : State) (l : List PortEvent) : (s.take l).cmdStatus = s.cmdStatus := rfl
@[simp] theorem State.take_phase (s : State) (l : List PortEvent) : (s.take l).phase = s.phase := rfl
@[simp] theorem State.take_err (s : State) (l : List PortEvent) : (s.take l).err = s.err := rfl
@[simp] theorem State.take_ibufLen (s : State) (l : List PortEvent) : (s.take l).ibufLen = s.ibufLen := rfl
@[simp] theorem State.take_vcount (s : State) (l : List PortEvent) : (s.take l).vcount = s.vcount := rfl
@[simp] theorem State.take_tcount (s : State) (l : List PortEvent) : (s.take l).tcount = s.tcount := rfl
@[simp] theorem State.take_hdrEnd (s : State) (l : List PortEvent) : (s.take l).hdrEnd = s.hdrEnd := rfl
@[simp] theorem State.take_tailTrim (s : State) (l : List PortEvent) : (s.take l).tailTrim = s.tailTrim := rfl
@[simp] theorem State.take_vexp (s : State) (l : List PortEvent) : (s.take l).vexp = s.vexp := rfl
@[simp] theorem State.take_texp (s : State) (l : List PortEvent) : (s.take l).texp = s.texp := rfl
@[simp] theorem State.take_sofIdx (s : State) (l : List PortEvent) : (s.take l).sofIdx = s.sofIdx := rfl
@[simp] theorem State.take_eofIdx (s : State) (l : List PortEvent) : (s.take l).eofIdx = s.eofIdx := rfl
@[simp] theorem State.take_frameLen (s : State) (l : List PortEvent) : (s.take l).frameLen = s.frameLen := rfl
@[simp] theorem State.take_crcRetrieved (s : State) (l : List PortEvent) : (s.take l).crcRetrieved = s.crcRetrieved := rfl
@[simp] theorem State.take_crcComputed (s : State) (l : List PortEvent) : (s.take l).crcComputed = s.crcComputed := rfl
@[simp] theorem State.take_payloadOff (s : State) (l : List PortEvent) : (s.take l).payloadOff = s.payloadOff := rfl
@[simp] theorem State.take_payloadLen (s : State) (l : List PortEvent) : (s.take l).payloadLen = s.payloadLen := rfl
@[simp] theorem State.take_rdVcount (s : State) (l : List PortEvent) : (s.take l).rdVcount = s.rdVcount := rfl
@[simp] theorem State.take_rdTcount (s : State) (l : List PortEvent) : (s.take l).rdTcount = s.rdTcount := rfl
@[simp] theorem State.take_rdVexp (s : State) (l : List PortEvent) : (s.take l).rdVexp = s.rdVexp := rfl
@[simp] theorem State.take_rdTexp (s : State) (l : List PortEvent) : (s.take l).rdTexp = s.rdTexp := rfl
@[simp] theorem State.take_crcArgStart (s : State) (l : List PortEvent) : (s.take l).crcArgStart = s.crcArgStart := rfl
@[simp] theorem State.take_crcArgLen (s : State) (l : List PortEvent) : (s.take l).crcArgLen = s.crcArgLen := rfl
@[simp] theorem State.take_crcResult (s : State) (l : List PortEvent) : (s.take l).crcResult = s.crcResult := rfl
@[simp] theorem State.take_field (s : State) (l : List PortEvent) : (s.take l).field = s.field := rfl
@[simp] theorem State.take_port (s : State) (l : List PortEvent) : (s.take l).port = l := rfl
@[simp] theorem State.take_reply (s : State) (l : List PortEvent) : (s.take l).reply = .nothing := rfl
@[simp] theorem State.take_ibufByte (s : State) (l : List PortEvent) (k : Nat) : (s.take l).ibufByte k = s.ibufByte k := rfl
@[simp] theorem State.take_memRead2 (s : State) (l : List PortEvent) (k : Nat) : (s.take l).memRead2 k = s.memRead2 k := rfl
@[simp] theorem State.take_bufRange (s : State) (l : List PortEvent) (k m : Nat) : (s.take l).bufRange k m = s.bufRange k m := rfl

end Sys2Proof.Machine
end

