-- ==== Sys2Proof/Laws/Ops.lean ====
section
/-! SUPPORT. What the shared operations can do: IBUF reads, the invalidation, the stage results, the marker search. -/

namespace Sys2Proof.Machine

open Sys2Proof

/-- Reset leaves IBUF's list in its canonical form. -/
theorem State.reset_ibuf_wf : Memory.wf State.reset.ibuf = true := rfl

@[simp] theorem State.bufRange_length (s : State) (a b : Nat) : (s.bufRange a b).length = b - a := by
  simp [State.bufRange]

theorem State.bufRange_getElem (s : State) (a b k : Nat) (h : k < (s.bufRange a b).length) :
    (s.bufRange a b)[k] = s.ibufByte (a + k) := by
  simp [State.bufRange]

/-- Two states whose bytes agree in a range read the same range. -/
theorem State.bufRange_congr {s t : State} {a b : Nat} (h : ∀ i, a ≤ i → i < b → s.ibufByte i = t.ibufByte i) :
    s.bufRange a b = t.bufRange a b := by
  apply List.ext_getElem (by simp)
  intro k h1 h2
  rw [State.bufRange_getElem, State.bufRange_getElem]
  simp only [State.bufRange_length] at h1
  exact h _ (by omega) (by omega)

/-- IBUF_LEN is not read by a byte access, so a state that differs elsewhere reads the same bytes. -/
theorem State.ibufByte_congr {s t : State} (h1 : t.ibuf = s.ibuf) (h2 : t.draw = s.draw) (i : Nat) :
    t.ibufByte i = s.ibufByte i := by
  simp [State.ibufByte, h1, h2]

/-- The byte at an address after one is written. -/
theorem State.ibufByte_set (s : State) (a i : Nat) (b : Byte) :
    ({ s with ibuf := Memory.set s.ibuf a b } : State).ibufByte i = if i = a then b else s.ibufByte i := by
  unfold State.ibufByte
  split
  · next h => simp [h]
  · next h => simp [Memory.get?_set_other _ _ h]

/-- An index that fits in 16 bits is kept exactly. -/
theorem index16_toNat {n : Nat} (h : n < 65536) : (index16 n).toNat = n := by
  simp [index16, Nat.mod_eq_of_lt h]

/-- The invalidation drops a held view and otherwise does nothing (R74). -/
theorem State.invalidate_cases (s : State) :
    ((s.phase = .verifying ∨ s.phase = .decoding) ∧ s.invalidate = s.toIdle) ∨
    (¬ (s.phase = .verifying ∨ s.phase = .decoding) ∧ s.invalidate = s) := by
  unfold State.invalidate
  split
  · next h => exact .inl ⟨h, rfl⟩
  · next h => exact .inr ⟨h, rfl⟩

@[simp] theorem StageResult.state_goesOn (s : State) : (StageResult.goesOn s).state = s := rfl
@[simp] theorem StageResult.state_ended (s : State) : (StageResult.ended s).state = s := rfl
@[simp] theorem StageResult.andThen_goesOn (s : State) (f : State → StageResult) :
    (StageResult.goesOn s).andThen f = f s := rfl
@[simp] theorem StageResult.andThen_ended (s : State) (f : State → StageResult) :
    (StageResult.ended s).andThen f = .ended s := rfl

theorem State.matchAt_iff (s : State) (m : Byte × Byte) (i : Nat) :
    s.matchAt m i = true ↔
      i + 2 ≤ s.ibufLen.toNat ∧ s.ibufByte i = m.1 ∧ s.ibufByte (i + 1) = m.2 := by
  simp [State.matchAt]

/-- The search finds the least index at or above `lo` that matches. -/
theorem State.findMarker_eq_some (s : State) (m : Byte × Byte) (lo i : Nat) :
    s.findMarker m lo = some i ↔
      lo ≤ i ∧ s.matchAt m i = true ∧ ∀ j, lo ≤ j → j < i → s.matchAt m j = false := by
  unfold State.findMarker
  rw [List.find?_range'_eq_some]
  simp only [List.mem_range'_1, Bool.not_eq_true']
  constructor
  · rintro ⟨h1, ⟨h2, _⟩, h3⟩
    exact ⟨h2, h1, h3⟩
  · rintro ⟨h1, h2, h3⟩
    have := ((State.matchAt_iff s m i).1 h2).1
    exact ⟨h2, ⟨h1, by omega⟩, h3⟩

/-- The search finds nothing exactly when no index at or above `lo` matches. -/
theorem State.findMarker_eq_none (s : State) (m : Byte × Byte) (lo : Nat) :
    s.findMarker m lo = none ↔ ∀ j, lo ≤ j → s.matchAt m j = false := by
  unfold State.findMarker
  rw [List.find?_eq_none]
  simp only [List.mem_range'_1, Bool.not_eq_true]
  constructor
  · intro h j hj
    by_cases hm : s.matchAt m j = true
    · have := ((State.matchAt_iff s m j).1 hm).1
      exact h j ⟨hj, by omega⟩
    · simpa using hm
  · intro h j hj
    exact h j hj.1

/-- The search reads IBUF_LEN and IBUF only. -/
theorem State.findMarker_congr {s t : State} (h1 : t.ibufLen = s.ibufLen) (h2 : t.ibuf = s.ibuf)
    (h3 : t.draw = s.draw) (m : Byte × Byte) (lo : Nat) : t.findMarker m lo = s.findMarker m lo := by
  have h : t.matchAt m = s.matchAt m := by
    funext i
    simp [State.matchAt, h1, State.ibufByte_congr h2 h3]
  simp [State.findMarker, h1, h]

end Sys2Proof.Machine
end

