-- ==== Sys2Proof/Laws/PerInstr.lean ====
section
/-! SUPPORT. What holds of every instruction as syntax, one lemma per constructor: its encoding is a well-formed word. -/

namespace Sys2Proof.Laws.WordWellFormed

open Sys2Proof

/-- The word that an instruction encodes to is well formed. -/
def Statement (i : Instr) : Prop := (encode i).wellFormed = true

theorem nop : Statement .nop := rfl
theorem clear : Statement .clear := rfl
theorem extract : Statement .extract := rfl
theorem verify : Statement .verify := rfl
theorem decode : Statement .decode := rfl
theorem cycle : Statement .cycle := rfl
theorem crc : Statement .crc := rfl

theorem regRead (r : RegNum) : Statement (.regRead r) := by
  obtain ⟨hk, hz, _, hv⟩ := ht32_reg_fields 0#2 r 0#16
  simp only [Statement, encode, HostWord.wellFormed, zIsZero, unusedAreZero]
  rw [hk, hz, hv]
  rfl

theorem regWrite (r : RegNum) (v : Word) : Statement (.regWrite r v) := by
  obtain ⟨hk, hz, _, _⟩ := ht32_reg_fields 1#2 r v
  simp only [Statement, encode, HostWord.wellFormed, zIsZero, unusedAreZero]
  rw [hk, hz]
  rfl

theorem bufRead (a : BufIdx) : Statement (.bufRead a) := by
  obtain ⟨hk, hz, _, hb⟩ := ht32_buf_fields 2#2 a 0#8
  simp only [Statement, encode, HostWord.wellFormed, zIsZero, unusedAreZero]
  rw [hk, hz, hb]
  rfl

theorem bufWrite (a : BufIdx) (b : Byte) : Statement (.bufWrite a b) := by
  obtain ⟨hk, hz, _, _⟩ := ht32_buf_fields 3#2 a b
  simp only [Statement, encode, HostWord.wellFormed, zIsZero, unusedAreZero]
  rw [hk, hz]
  rfl

end Sys2Proof.Laws.WordWellFormed
end

