-- ==== Sys2Proof/Laws/Pipeline.lean ====
section
/-! SUPPORT. What each stage of the pipeline, and each command, can do: one inversion lemma each. -/

namespace Sys2Proof.Machine

open Sys2Proof

/-- The state in which the marker search runs. -/
abbrev State.searching (s : State) : State := ((s.setCmdStatus .ok).clearResults).setPhase .extracting

/-- EXTRACT fails at the SOF search, fails at the EOF search, or holds a frame (R121). -/
theorem extractBody_cases (s : State) :
    (s.findMarker sofMarker 0 = none ∧
      extractBody s = .ended (s.searching.raiseFailure .markerNotFoundSof)) ∨
    (∃ sof, s.findMarker sofMarker 0 = some sof ∧ s.findMarker eofMarker (sof + 2) = none ∧
      extractBody s = .ended ((s.searching.holdSof sof).raiseFailure .markerNotFoundEof)) ∨
    (∃ sof eof, s.findMarker sofMarker 0 = some sof ∧ s.findMarker eofMarker (sof + 2) = some eof ∧
      extractBody s = .goesOn ((s.searching.holdSof sof).holdFrame eof (eof + 2 - sof))) := by
  have h1 : s.searching.findMarker sofMarker 0 = s.findMarker sofMarker 0 :=
    State.findMarker_congr rfl rfl rfl _ _
  have h2 : ∀ sof, (s.searching.holdSof sof).findMarker eofMarker (sof + 2) = s.findMarker eofMarker (sof + 2) :=
    fun _ => State.findMarker_congr rfl rfl rfl _ _
  cases hs : s.findMarker sofMarker 0 with
  | none => exact .inl ⟨rfl, by simp only [extractBody, h1, hs]⟩
  | some sof =>
    cases he : s.findMarker eofMarker (sof + 2) with
    | none => exact .inr (.inl ⟨sof, rfl, he, by simp only [extractBody, h1, hs, h2, he]⟩)
    | some eof => exact .inr (.inr ⟨sof, eof, rfl, he, by simp only [extractBody, h1, hs, h2, he]⟩)

/-- The state of VERIFY once both CRCs are known. -/
abbrev State.checked (s : State) : State := (s.setCmdStatus .ok).holdCrcs s.crcField (crc16 s.crcData)

/-- VERIFY finds the frame too short, finds the CRCs different, or holds a payload view (R145). -/
theorem verifyBody_cases (s : State) :
    (s.frameLen.toNat < 6 ∧ verifyBody s = .ended ((s.setCmdStatus .ok).raiseFailure .frameTooShort)) ∨
    (6 ≤ s.frameLen.toNat ∧ crc16 s.crcData ≠ s.crcField ∧
      verifyBody s = .ended (s.checked.raiseFailure .crcMismatch)) ∨
    (6 ≤ s.frameLen.toNat ∧ crc16 s.crcData = s.crcField ∧
      verifyBody s = .goesOn (s.checked.holdPayload (s.stripPayload s.sofIdx.toNat s.frameLen.toNat).1
        (s.stripPayload s.sofIdx.toNat s.frameLen.toNat).2)) := by
  by_cases h : s.frameLen.toNat < 6
  · exact .inl ⟨h, if_pos h⟩
  · refine .inr ?_
    by_cases hc : crc16 s.crcData = s.crcField
    · exact .inr ⟨by omega, hc, (if_neg h).trans (if_neg (not_not_intro hc))⟩
    · exact .inl ⟨by omega, hc, (if_neg h).trans (if_pos hc)⟩

/-- DECODE finds the profile invalid, finds another payload length, or holds a reading (R170). -/
theorem decodeBody_cases (s : State) :
    (s.cfg.fieldCap < s.vcount.toNat + s.tcount.toNat ∧
      decodeBody s = .ended ((s.setCmdStatus .ok).raiseFailure .profileInvalid)) ∨
    (s.vcount.toNat + s.tcount.toNat ≤ s.cfg.fieldCap ∧
      s.payloadLen.toNat ≠ 2 * (s.vcount.toNat + s.tcount.toNat) ∧
      decodeBody s = .ended ((s.setCmdStatus .ok).raiseFailure .payloadLengthMismatch)) ∨
    (s.vcount.toNat + s.tcount.toNat ≤ s.cfg.fieldCap ∧
      s.payloadLen.toNat = 2 * (s.vcount.toNat + s.tcount.toNat) ∧
      decodeBody s = .goesOn ((s.setCmdStatus .ok).holdReading
        (s.payloadFields (s.vcount.toNat + s.tcount.toNat)))) := by
  by_cases h : s.cfg.fieldCap < s.vcount.toNat + s.tcount.toNat
  · exact .inl ⟨h, if_pos h⟩
  · refine .inr ?_
    by_cases hl : s.payloadLen.toNat = 2 * (s.vcount.toNat + s.tcount.toNat)
    · exact .inr ⟨by omega, hl, (if_neg h).trans (if_neg (not_not_intro hl))⟩
    · exact .inl ⟨by omega, hl, (if_neg h).trans (if_pos hl)⟩

/-- CRC is out of range, or gives the checksum of its range (R160). -/
theorem cmdCrc_cases (s : State) :
    (s.ibufLen.toNat < s.crcArgStart.toNat + s.crcArgLen.toNat ∧ cmdCrc s = s.raiseCmdError .range) ∨
    (s.crcArgStart.toNat + s.crcArgLen.toNat ≤ s.ibufLen.toNat ∧
      cmdCrc s = { s with
        cmdStatus := .ok
        crcResult := crc16 (s.bufRange s.crcArgStart.toNat (s.crcArgStart.toNat + s.crcArgLen.toNat)) }) := by
  unfold cmdCrc
  split
  · next h => exact .inl ⟨h, rfl⟩
  · next h => exact .inr ⟨by omega, rfl⟩

/-- CYCLE ends in its first, second or third stage (R202). -/
theorem cmdCycle_cases (s : State) :
    (∃ t, extractBody s = .ended t ∧ cmdCycle s = t) ∨
    (∃ t u, extractBody s = .goesOn t ∧ verifyBody t = .ended u ∧ cmdCycle s = u) ∨
    (∃ t u, extractBody s = .goesOn t ∧ verifyBody t = .goesOn u ∧ cmdCycle s = (decodeBody u).state) := by
  have h0 : extractBody (s.setCmdStatus .ok) = extractBody s := rfl
  unfold cmdCycle
  rw [h0]
  cases extractBody s with
  | ended t => exact .inl ⟨t, rfl, rfl⟩
  | goesOn t =>
    rw [StageResult.andThen_goesOn]
    cases h : verifyBody t with
    | ended u => exact .inr (.inl ⟨t, u, rfl, h, rfl⟩)
    | goesOn u => exact .inr (.inr ⟨t, u, rfl, h, rfl⟩)

/-- The payload view lies in the frame (R146). -/
theorem State.stripPayload_bounds (s : State) (base len : Nat) :
    base ≤ (s.stripPayload base len).1 ∧
    (s.stripPayload base len).1 + (s.stripPayload base len).2 ≤ base + len := by
  simp only [State.stripPayload]
  split <;> omega

@[simp] theorem State.payloadFields_length (s : State) (n : Nat) : (s.payloadFields n).length = n := by
  simp [State.payloadFields]

theorem State.payloadFields_getElem (s : State) (n i : Nat) (h : i < (s.payloadFields n).length) :
    (s.payloadFields n)[i] = s.memRead2 (s.payloadOff.toNat + 2 * i) := by
  simp [State.payloadFields]

@[simp] theorem crc16_nil : crc16 [] = crcInit := rfl

theorem crc16_append_byte (d : List Byte) (b : Byte) : crc16 (d ++ [b]) = crcStep (crc16 d) b := by
  simp [crc16]

end Sys2Proof.Machine
end

