-- ==== Sys2Proof/Laws/Port.lean ====
section
/-! SUPPORT. What a host transaction and a step can do. -/

namespace Sys2Proof.Machine

open Sys2Proof

/-- The register map has no number twice: a register's number names it (R21). -/
@[simp] theorem RegName.ofNumber_number (n : RegName) : RegName.ofNumber n.number = some n := by
  cases n <;> decide

/-- A number that names a register is that register's (R21). -/
theorem RegName.number_of_ofNumber {r : RegNum} {n : RegName} (h : RegName.ofNumber r = some n) : n.number = r := by
  simpa using List.find?_some h

/-- The FIELD window and the reserved numbers 0x19 to 0x3F name no register (R46, R47). -/
theorem RegName.ofNumber_eq_none {r : RegNum} (h : 0x19 ≤ r.toNat) : RegName.ofNumber r = none := by
  rw [RegName.ofNumber, List.find?_eq_none]
  intro n _ hn
  have hr : n.number = r := by simpa using hn
  subst hr
  revert h
  cases n <;> decide

/-- A defined register reads as its value (R71). -/
@[simp] theorem State.readReg_number (s : State) (n : RegName) : s.readReg n.number = s.readNamed n := by
  simp [State.readReg]

/-- A write to a defined register has that register's effect (R73). -/
@[simp] theorem State.writeReg_number (s : State) (n : RegName) (v : Word) :
    s.writeReg n.number v = s.writeNamed v n := by
  simp [State.writeReg]

/-- The state that an instruction leaves: the whole of what exec can answer. -/
def afterInstr (i : Instr) (s : State) : State :=
  match i with
  | .nop => cmdNop s
  | .clear => cmdClear s
  | .extract => cmdExtract s
  | .verify => cmdVerify s
  | .decode => cmdDecode s
  | .cycle => cmdCycle s
  | .crc => cmdCrc s
  | .regRead r => { s with reply := .reg (s.readReg r) }
  | .regWrite r v => s.writeReg r v
  | .bufRead a => { s with reply := .byte (s.readBuf a) }
  | .bufWrite a b => s.writeBuf a b

/-- Every instruction answers a next state. -/
theorem exec_eq_next (i : Instr) (s : State) : exec i s = .next (afterInstr i s) := by
  cases i <;> rfl

/-- A command word is decoded to its command, and the command to its instruction. -/
theorem runCommand_of_ok {v : Word} {c : Command} (h : decodeCommand v = .ok c) (s : State) :
    runCommand v s = afterInstr c.instr s := by
  unfold runCommand
  rw [h]
  cases c <;> rfl

theorem runCommand_of_rejected {v : Word} {r : Reject} (h : decodeCommand v = .rejected r) (s : State) :
    runCommand v s = s.raiseCmdError .illegal := by
  unfold runCommand
  rw [h]

/-- Everything a step can come to. -/
theorem step_cases (s : State) :
    (s.port = [] ∧ step s = .next s) ∨
    (∃ rest, s.port = .resetInput :: rest ∧ step s = .next (s.resetInput rest)) ∨
    (∃ w rest, s.port = .secondHost w :: rest ∧ step s = .refused .secondHost) ∨
    (∃ w rest i, s.port = .request w :: rest ∧ decode w = .ok i ∧ step s = .next (afterInstr i (s.take rest))) ∨
    (∃ v rest r, s.port = .request (.cmd16 v) :: rest ∧ decodeCommand v = .rejected r ∧
      step s = .next ((s.take rest).raiseCmdError .illegal)) ∨
    (∃ w rest r, s.port = .request (.ht32 w) :: rest ∧ decode (.ht32 w) = .rejected r ∧
      step s = .refused .noTransaction) := by
  cases hp : s.port with
  | nil => exact .inl ⟨rfl, by simp [step, hp]⟩
  | cons e rest =>
    cases e with
    | resetInput => exact .inr (.inl ⟨rest, rfl, by simp [step, hp]⟩)
    | secondHost w => exact .inr (.inr (.inl ⟨w, rest, rfl, by simp [step, hp]⟩))
    | request w =>
      refine .inr (.inr (.inr ?_))
      cases hd : decode w with
      | ok i => exact .inl ⟨w, rest, i, rfl, hd, by simp [step, hp, hd, exec_eq_next]⟩
      | rejected r =>
        refine .inr ?_
        cases w with
        | cmd16 v =>
          refine .inl ⟨v, rest, r, rfl, ?_, by simp [step, hp, hd, undecoded]⟩
          simp only [decode] at hd
          split at hd
          · cases hd
          · next h => cases hd; exact h
        | ht32 w => exact .inr ⟨w, rest, r, rfl, hd, by simp [step, hp, hd, undecoded]⟩

end Sys2Proof.Machine
end

