-- ==== Sys2Proof/Tests/Slice0.lean ====
section
/-! SUPPORT. Tests: ill-formed terms that the checks refuse, words written out from the spec's encodings, one step of
each instruction on vectors of spec/95_test_vectors.md, and a witness for the hypotheses of every statement. -/

namespace Sys2Proof.Tests

open Sys2Proof Sys2Proof.Machine

/-! ### Helpers -/

/-- Small capacities, so that a test state is small. -/
def smallConfig : Config := { bufCap := 64, fieldCap := 4 }

/-- IDLE with these bytes in IBUF, IBUF_LEN their count, the reset profile. -/
def loaded (bs : List Byte) : State :=
  { State.resetWith smallConfig 0 with
    ibuf := (List.range bs.length).zip bs
    ibufLen := BitVec.ofNat 16 bs.length }

/-- The outcome is a next state of which p holds. -/
def nextIs (o : Host.Outcome State Fault Refusal) (p : State → Bool) : Bool :=
  match o with
  | .next t => p t
  | .fault _ => false
  | .refused _ => false

/-- The outcome is this refusal. -/
def refuses (o : Host.Outcome State Fault Refusal) (r : Refusal) : Bool :=
  match o with
  | .next _ => false
  | .fault _ => false
  | .refused q => q == r

/-! ### WellFormed: an ill-formed term for each check -/

theorem test_bufCap_too_small : Config.bufCapLegal { bufCap := 1, fieldCap := 0 } = false := by decide
theorem test_bufCap_too_large : Config.bufCapLegal { bufCap := 65536, fieldCap := 0 } = false := by decide
theorem test_fieldCap_too_large : Config.fieldCapLegal { bufCap := 2, fieldCap := 193 } = false := by decide
theorem test_config_ill_formed : Config.wellFormed { bufCap := 256, fieldCap := 193 } = false := by decide
theorem test_rsv_not_zero : rsvIsZero 0x0012#16 = false := by decide
theorem test_op_reserved : opIsDefined 0x0007#16 = false ∧ opIsDefined 0x000F#16 = false := by decide
theorem test_command_word_ill_formed : HostWord.wellFormed (.cmd16 0x8005#16) = false := by decide
theorem test_z_not_zero : zIsZero 0x41000005#32 = false := by decide
theorem test_regRead_unused : unusedAreZero 0x00010001#32 = false := by decide
theorem test_bufRead_unused : unusedAreZero 0x80000001#32 = false := by decide
theorem test_transaction_word_ill_formed : HostWord.wellFormed (.ht32 0x80000001#32) = false := by decide
theorem test_rdf_out_of_range : ScriptLine.wellFormed (.rdf 192#8) = false := by decide
theorem test_load_out_of_range : ScriptLine.wellFormed (.load 65536 [0x00#8]) = false := by decide

/-! ### Decode: the words of R100, R101 and R106, written out bit by bit -/

theorem test_decode_nop : decode (.cmd16 0b000000000000_0000#16) = .ok .nop := by decide
theorem test_decode_clear : decode (.cmd16 0b000000000000_0001#16) = .ok .clear := by decide
theorem test_decode_extract : decode (.cmd16 0b000000000000_0010#16) = .ok .extract := by decide
theorem test_decode_verify : decode (.cmd16 0b000000000000_0011#16) = .ok .verify := by decide
theorem test_decode_decode : decode (.cmd16 0b000000000000_0100#16) = .ok .decode := by decide
theorem test_decode_cycle : decode (.cmd16 0b000000000000_0101#16) = .ok .cycle := by decide
theorem test_decode_crc : decode (.cmd16 0b000000000000_0110#16) = .ok .crc := by decide
theorem test_decode_regRead :
    decode (.ht32 0b00_000000_00010011_00000000_00000000#32) = .ok (.regRead 0x13#8) := by decide
theorem test_decode_regWrite :
    decode (.ht32 0b01_000000_00000100_00000001_00101100#32) = .ok (.regWrite 0x04#8 300#16) := by decide
theorem test_decode_bufRead :
    decode (.ht32 0b10_000000_00000001_00000010_00000000#32) = .ok (.bufRead 0x0102#16) := by decide
theorem test_decode_bufWrite :
    decode (.ht32 0b11_000000_00000001_00000010_10000101#32) = .ok (.bufWrite 0x0102#16 0x85#8) := by decide
theorem test_reject_rsv : decode (.cmd16 0x0012#16) = .rejected .rsvNotZero := by decide
theorem test_reject_op : decode (.cmd16 0x000F#16) = .rejected (.reservedOp 0xF#4) := by decide
theorem test_reject_z : decode (.ht32 0x41000005#32) = .rejected .zNotZero := by decide
theorem test_reject_unused : decode (.ht32 0x80000001#32) = .rejected .unusedNotZero := by decide
theorem test_table_word_cycle : decodeTableWord 16 0x0005 = some .cycle := by decide

/-! ### One step of each instruction -/

/-- Vector S9: NOP in FAILED keeps the failure and sets CMD_STATUS = OK. -/
theorem test_nop_keeps_failure :
    nextIs (exec .nop { loaded [] with phase := .failed, err := .crcMismatch, cmdStatus := .sequence })
      (fun t => t.phase == .failed && t.err == .crcMismatch && t.cmdStatus == .ok) = true := by decide

/-- Vector S10, on a small reading. -/
theorem test_clear_from_ready :
    nextIs (exec .clear { loaded [0x1A#8] with
        phase := .ready, rdVcount := 1#16, field := [0x0064#16, 0#16, 0#16, 0#16], crcResult := 7#16 })
      (fun t => t.phase == .idle && t.rdVcount == 0#16 && t.field == [0#16, 0#16, 0#16, 0#16] &&
        t.ibufLen == 1#16 && t.crcResult == 7#16) = true := by decide

/-- Vector X3. -/
theorem test_extract_skips_garbage :
    nextIs (exec .extract (loaded [0x00#8, 0x1A#8, 0x85#8, 0x01#8, 0x02#8, 0x22#8, 0xCE#8]))
      (fun t => t.phase == .verifying && t.sofIdx == 1#16 && t.eofIdx == 5#16 && t.frameLen == 6#16) = true := by
  decide

/-- Vector X9: a byte at IBUF_LEN is not searched. -/
theorem test_extract_stops_at_length :
    nextIs (exec .extract { loaded [0x1A#8, 0x85#8, 0x01#8, 0x22#8, 0xCE#8] with ibufLen := 4#16 })
      (fun t => t.phase == .failed && t.err == .markerNotFoundEof && t.sofIdx == 0#16 && t.frameLen == 0#16) = true := by
  decide

/-- The frame of R145's example and of vector V4b, one field 0x0064 behind a 3-byte header. -/
def oneField : State :=
  loaded [0x1A#8, 0x85#8, 0x01#8, 0x02#8, 0x03#8, 0x00#8, 0x64#8, 0x23#8, 0x47#8, 0x22#8, 0xCE#8]

/-- `oneField` after EXTRACT: SOF_IDX 0, EOF_IDX 9, FRAME_LEN 11 (R145's example). -/
def oneFieldHeld : State := { oneField with phase := .verifying, eofIdx := 9#16, frameLen := 11#16 }

/-- `oneField` after VERIFY, as vector V4b gives it. -/
def oneFieldVerified : State :=
  { oneFieldHeld with
    phase := .decoding, crcRetrieved := 0x2347#16, crcComputed := 0x2347#16, payloadOff := 5#16, payloadLen := 2#16 }

/-- Vector V4b. -/
theorem test_verify_passes :
    nextIs (exec .verify oneFieldHeld)
      (fun t => t.phase == .decoding && t.crcRetrieved == 0x2347#16 && t.crcComputed == 0x2347#16 &&
        t.payloadOff == 5#16 && t.payloadLen == 2#16) = true := by decide

/-- The frame of vector V4, after EXTRACT. -/
def wrongCrc : State :=
  { loaded [0x1A#8, 0x85#8, 0x12#8, 0x34#8, 0x22#8, 0xCE#8] with phase := .verifying, eofIdx := 4#16, frameLen := 6#16 }

/-- Vector V4. -/
theorem test_verify_fails :
    nextIs (exec .verify wrongCrc)
      (fun t => t.phase == .failed && t.err == .crcMismatch && t.crcRetrieved == 0x1234#16 &&
        t.crcComputed == 0xFFFF#16 && t.payloadOff == 0#16) = true := by decide

/-- R170's example: payload `00 64`, N = 1, M = 0. -/
theorem test_decode_one_field :
    nextIs (exec .decode { oneFieldVerified with vcount := 1#16 })
      (fun t => t.phase == .ready && t.field == [0x0064#16, 0#16, 0#16, 0#16] && t.rdVcount == 1#16 &&
        t.rdTcount == 0#16 && t.rdVexp == 3#2 && t.rdTexp == 1#2) = true := by decide

/-- R174 item 7 and R227: N + M = FIELD_CAP + 1 gives PROFILE_INVALID before the length check. -/
theorem test_decode_profile_invalid :
    nextIs (exec .decode { oneFieldVerified with vcount := 3#16, tcount := 2#16 })
      (fun t => t.phase == .failed && t.err == .profileInvalid && t.payloadLen == 2#16 &&
        t.cmdStatus == .ok) = true := by decide

/-- Vector D4: the empty reading. -/
theorem test_cycle_empty_reading :
    nextIs (exec .cycle (loaded [0x1A#8, 0x85#8, 0xFF#8, 0xFF#8, 0x22#8, 0xCE#8]))
      (fun t => t.phase == .ready && t.err == .none && t.payloadLen == 0#16 && t.rdVcount == 0#16 &&
        t.readReg 0x13#8 == 0x0007#16) = true := by decide

/-- Vector D5: the same frame under N = 1. -/
theorem test_cycle_length_mismatch :
    nextIs (exec .cycle { loaded [0x1A#8, 0x85#8, 0xFF#8, 0xFF#8, 0x22#8, 0xCE#8] with vcount := 1#16 })
      (fun t => t.phase == .failed && t.err == .payloadLengthMismatch && t.rdVcount == 0#16 &&
        t.readReg 0x13#8 == 0#16) = true := by decide

/-- IBUF of the vectors K1 to K5: the ASCII bytes of 123456789. -/
def asciiDigits : State :=
  loaded [0x31#8, 0x32#8, 0x33#8, 0x34#8, 0x35#8, 0x36#8, 0x37#8, 0x38#8, 0x39#8]

/-- Vector K1. -/
theorem test_crc_check_value :
    nextIs (exec .crc { asciiDigits with crcArgLen := 9#16 })
      (fun t => t.cmdStatus == .ok && t.crcResult == 0x29B1#16 && t.phase == .idle) = true := by decide

/-- Vector K2: 5 + 5 > 9. -/
theorem test_crc_range :
    nextIs (exec .crc { asciiDigits with crcArgStart := 5#16, crcArgLen := 5#16, crcResult := 0x29B1#16 })
      (fun t => t.cmdStatus == .range && t.crcResult == 0x29B1#16) = true := by decide

/-- R250: SCALE reads 0x0007 after reset. -/
theorem test_read_scale :
    nextIs (exec (.regRead 0x09#8) State.reset) (fun t => t.reply == .reg 0x0007#16) = true := by decide

/-- R45, R6: CAP_BUF reads the suggested 256. -/
theorem test_read_capBuf :
    nextIs (exec (.regRead 0x17#8) State.reset) (fun t => t.reply == .reg 256#16) = true := by decide

/-- Vector S15, with BUF_CAP = 256: IBUF_LEN is clamped. -/
theorem test_write_length_clamps :
    nextIs (exec (.regWrite 0x04#8 300#16) State.reset) (fun t => t.ibufLen == 256#16) = true := by decide

/-- Vector S7: RSV not 0 is ILLEGAL, and no EXTRACT runs. -/
theorem test_write_illegal_command :
    nextIs (exec (.regWrite 0x00#8 0x0012#16) State.reset)
      (fun t => t.cmdStatus == .illegal && t.phase == .idle && t.err == .none) = true := by decide

/-- R72: a byte is read back, and an index at BUF_CAP reads 0. -/
theorem test_read_buffer :
    nextIs (exec (.bufRead 4#16) (loaded [1#8, 2#8, 3#8, 4#8, 5#8])) (fun t => t.reply == .byte 5#8) = true := by decide
theorem test_read_buffer_outside :
    nextIs (exec (.bufRead 64#16) (loaded [1#8])) (fun t => t.reply == .byte 0#8) = true := by decide

/-- Vector S11: a BufWrite in VERIFYING drops the view, even where it writes the old value. -/
theorem test_write_buffer_invalidates :
    nextIs (exec (.bufWrite 0#16 0x1A#8) oneFieldHeld)
      (fun t => t.phase == .idle && t.eofIdx == 0#16 && t.frameLen == 0#16 && t.ibuf == oneFieldHeld.ibuf) = true := by
  decide

/-- R72: a BufWrite at BUF_CAP is ignored. -/
theorem test_write_buffer_outside :
    nextIs (exec (.bufWrite 64#16 0x1A#8) oneFieldHeld) (fun t => t == oneFieldHeld) = true := by decide

/-! ### The step and the port -/

theorem test_step_runs_port :
    nextIs (step (State.reset.withFetchWord 32 0x4005000C)) (fun t => t.vcount == 12#16 && t.port == []) = true := by
  decide
theorem test_step_refuses_second_host :
    refuses (step { State.reset with port := [.secondHost (.cmd16 0#16)] }) .secondHost = true := by decide
theorem test_step_refuses_no_transaction :
    refuses (step (State.reset.withFetchWord 32 0x41000005)) .noTransaction = true := by decide
theorem test_reset_input :
    nextIs (step { oneFieldHeld with port := [.resetInput] })
      (fun t => t == { State.resetWith smallConfig 1 with port := [] }) = true := by decide

/-! ### Scripts, profiles, the scaler -/

/-- R107: names, decimal, hex, a comment. -/
theorem test_parse_write :
    parseLine "wr CMD, 0x0005 ; run it".toList = some [.wr 0x00#8 5#16] := by decide
theorem test_parse_read : parseLine "rd 0x40".toList = some [.rd 0x40#8] := by decide
theorem test_parse_comment : parseLine "; nothing".toList = some [] := by decide

/-- R108: `profile 12, 4, 5, 4, 3, 1` is its five writes. -/
theorem test_profile_expands :
    (Profile.p12 .millivolt .deciDegree).line.expand =
      [.regWrite 0x05#8 12#16, .regWrite 0x06#8 4#16, .regWrite 0x07#8 5#16, .regWrite 0x08#8 4#16,
       .regWrite 0x09#8 0x0007#16] := by decide

/-- Worked example L1-1: `00 64` at a voltage field with VEXP 3 is 0.100 V. -/
theorem test_scale_voltage :
    ({ loaded [] with phase := .ready, rdVcount := 1#16, rdVexp := 3#2, field := [0x0064#16, 0#16, 0#16, 0#16] }
      : State).scaled? 0 = some (100 / 1000) := by
  have h : (0x0064#16 : Word).msb = false := by decide
  norm_num [State.scaled?, State.fieldAt, State.scaleExponent, sint16, loaded, State.resetWith, smallConfig, h]

/-- Worked example L1-2: `FF 9C` at a temperature field with TEXP 1 is −10.0 °C. -/
theorem test_scale_temperature :
    ({ loaded [] with phase := .ready, rdTcount := 1#16, rdTexp := 1#2, field := [0xFF9C#16, 0#16, 0#16, 0#16] }
      : State).scaled? 0 = some (-10) := by
  have h : (0xFF9C#16 : Word).msb = true := by decide
  norm_num [State.scaled?, State.fieldAt, State.scaleExponent, sint16, loaded, State.resetWith, smallConfig, h]

/-- The step trace of 95_test_vectors.md section 2: the first byte of `01 02 03 00 64`. -/
theorem test_crc_first_step : crcStep 0xFFFF#16 0x01#8 = 0xF1D1#16 := by decide

/-! ### Witnesses: for every statement with hypotheses, states and operands that meet them -/

/-- READY, with the reading 0x0064 of `oneField` under N = 1, M = 0. -/
def oneFieldReady : State :=
  { oneFieldVerified with
    phase := .ready, vcount := 1#16, rdVcount := 1#16, rdVexp := 3#2, rdTexp := 1#2,
    field := [0x0064#16, 0#16, 0#16, 0#16] }

/-- The 4-byte frame of vector V1, after EXTRACT. -/
def shortFrame : State :=
  { loaded [0x1A#8, 0x85#8, 0x22#8, 0xCE#8] with phase := .verifying, eofIdx := 2#16, frameLen := 4#16 }

/-- The 6-byte frame of vector V3, after EXTRACT. -/
def emptyFrame : State :=
  { loaded [0x1A#8, 0x85#8, 0xFF#8, 0xFF#8, 0x22#8, 0xCE#8] with phase := .verifying, eofIdx := 4#16, frameLen := 6#16 }

/-- FAILED with ERR 1, as vector X1 leaves it. -/
def failedSof : State := { loaded [] with phase := .failed, err := .markerNotFoundSof }

/-- A list whose entries are all checked to be 0. -/
theorem zeros_of_all {l : List Word} (h : l.all (· == 0#16) = true) : ∀ v ∈ l, v = 0#16 := by
  simpa using h

theorem inv_oneField : oneField.Inv := by
  constructor
  case unusedFields => exact zeros_of_all (by decide)
  all_goals decide
theorem inv_oneFieldHeld : oneFieldHeld.Inv := by
  constructor
  case unusedFields => exact zeros_of_all (by decide)
  all_goals decide
theorem inv_oneFieldVerified : oneFieldVerified.Inv := by
  constructor
  case unusedFields => exact zeros_of_all (by decide)
  all_goals decide
theorem inv_oneFieldReady : oneFieldReady.Inv := by
  constructor
  case unusedFields => exact zeros_of_all (by decide)
  all_goals decide
theorem inv_shortFrame : shortFrame.Inv := by
  constructor
  case unusedFields => exact zeros_of_all (by decide)
  all_goals decide
theorem inv_wrongCrc : wrongCrc.Inv := by
  constructor
  case unusedFields => exact zeros_of_all (by decide)
  all_goals decide
theorem inv_failedSof : failedSof.Inv := by
  constructor
  case unusedFields => exact zeros_of_all (by decide)
  all_goals decide

theorem witness_EncodeOfDecode : decode (.ht32 0xC0000185#32) = .ok (.bufWrite 1#16 0x85#8) := by decide

theorem witness_StepRunsTheDecodedInstruction :
    (State.reset.withFetchWord 16 5).port = .request (.cmd16 5#16) :: [] ∧ decode (.cmd16 5#16) = .ok .cycle := by
  decide

theorem witness_FetchWordIsTheNextInstruction : decodeTableWord 32 0x80012300 = some (.bufRead 0x0123#16) := by decide

theorem witness_IdlePortChangesNothing : oneField.port = [] := by decide

theorem witness_SecondHostIsRefused :
    ({ oneField with port := [.secondHost (.cmd16 0#16)] } : State).port = .secondHost (.cmd16 0#16) :: [] := by decide

/-- Each way to be illegal, at its least word, and the greatest reserved OP. -/
theorem witness_IllegalCommandWordOnlySetsIllegal :
    (0x0010#16 : Word).extractLsb' 4 12 ≠ 0#12 ∧ 0x7 ≤ ((0x0007#16 : Word).extractLsb' 0 4).toNat ∧
    0x7 ≤ ((0x000F#16 : Word).extractLsb' 0 4).toNat := by decide

theorem witness_WordThatNamesNoTransactionIsRefused :
    (HostWord.ht32 0x01000000#32).wellFormed = false ∧ (HostWord.ht32 0x00000001#32).wellFormed = false ∧
    (HostWord.ht32 0x80000001#32).wellFormed = false := by decide

theorem witness_StepIsAtomic :
    oneField.phase ≠ .extracting ∧ step oneField = .next oneField := ⟨by decide, rfl⟩

theorem witness_EveryScriptRunsToCompletion : oneFieldHeld.Inv ∧ failedSof.Inv := ⟨inv_oneFieldHeld, inv_failedSof⟩

theorem witness_ResetSetsEveryRegister :
    ({ oneFieldReady with port := [.resetInput] } : State).port = .resetInput :: [] := by decide

/-- The least and the greatest legal capacities. -/
theorem witness_ResetMeetsTheInvariant :
    Config.wellFormed { bufCap := 2, fieldCap := 0 } = true ∧
    Config.wellFormed { bufCap := 65535, fieldCap := 192 } = true := by decide

/-- A failing run of each command, with the premises of the statement. -/
theorem witness_FailureLeavesItsRecord_extract :
    failedSof.Inv ∧ ∃ t, exec .extract failedSof = .next t ∧ t.cmdStatus = .ok ∧ t.phase = .failed ∧
      t.err = .markerNotFoundSof := ⟨inv_failedSof, _, rfl, by decide⟩
theorem inv_oneField_cut : ({ oneField with ibufLen := 10#16 } : State).Inv := by
  constructor
  case unusedFields => exact zeros_of_all (by decide)
  all_goals decide
theorem witness_FailureLeavesItsRecord_eof :
    ({ oneField with ibufLen := 10#16 } : State).Inv ∧
    ∃ t, exec .extract { oneField with ibufLen := 10#16 } = .next t ∧ t.cmdStatus = .ok ∧ t.phase = .failed ∧
      t.err = .markerNotFoundEof := ⟨inv_oneField_cut, _, rfl, by decide⟩
theorem witness_FailureLeavesItsRecord_short :
    shortFrame.Inv ∧ ∃ t, exec .verify shortFrame = .next t ∧ t.cmdStatus = .ok ∧ t.phase = .failed ∧
      t.err = .frameTooShort := ⟨inv_shortFrame, _, rfl, by decide⟩
theorem witness_FailureLeavesItsRecord_crc :
    wrongCrc.Inv ∧ ∃ t, exec .verify wrongCrc = .next t ∧ t.cmdStatus = .ok ∧ t.phase = .failed ∧
      t.err = .crcMismatch := ⟨inv_wrongCrc, _, rfl, by decide⟩
theorem witness_FailureLeavesItsRecord_length :
    oneFieldVerified.Inv ∧ ∃ t, exec .decode oneFieldVerified = .next t ∧ t.cmdStatus = .ok ∧ t.phase = .failed ∧
      t.err = .payloadLengthMismatch := ⟨inv_oneFieldVerified, _, rfl, by decide⟩
theorem inv_oneField_fiveFields : ({ oneField with vcount := 5#16 } : State).Inv := by
  constructor
  case unusedFields => exact zeros_of_all (by decide)
  all_goals decide
theorem witness_FailureLeavesItsRecord_profile :
    ({ oneField with vcount := 5#16 } : State).Inv ∧
    ∃ t, exec .cycle { oneField with vcount := 5#16 } = .next t ∧ t.cmdStatus = .ok ∧ t.phase = .failed ∧
      t.err = .profileInvalid := ⟨inv_oneField_fiveFields, _, rfl, by decide⟩

/-- CMD_STATUS changed by a command word and by a register write of CMD, and by reset. -/
theorem witness_CmdStatusIsWrittenByCmdOnly :
    (∃ t, step (oneField.withFetchWord 16 3) = .next t ∧ t.cmdStatus ≠ oneField.cmdStatus) ∧
    (∃ t, step (oneField.withFetchWord 32 0x40000007) = .next t ∧ t.cmdStatus ≠ oneField.cmdStatus) ∧
    (∃ t, step { oneField with cmdStatus := .range, port := [.resetInput] } = .next t ∧ t.cmdStatus ≠ .range) :=
  ⟨⟨_, rfl, by decide⟩, ⟨_, rfl, by decide⟩, ⟨_, rfl, by decide⟩⟩

/-- CYCLE ending in its first stage, and CYCLE running on. -/
theorem witness_CycleIsTheThreeStages :
    (∃ t, exec .extract failedSof = .next t ∧ t.phase = .failed) ∧
    (∃ t, exec .extract oneField = .next t ∧ t.phase ≠ .failed) := ⟨⟨_, rfl, by decide⟩, ⟨_, rfl, by decide⟩⟩

theorem witness_TransitionTable :
    oneFieldHeld.phase = .verifying ∧ oneFieldVerified.phase = .decoding ∧
    (HostWord.cmd16 0x0007#16).wellFormed = false ∧ (63#16 : BufIdx).toNat < oneField.cfg.bufCap ∧
    (0x05#8 : RegNum) ≠ 0x00#8 ∧ (0x05#8 : RegNum) ≠ 0x04#8 := by decide

theorem witness_MisorderedStageOnlySetsSequence :
    oneFieldReady.phase ≠ .verifying ∧ oneFieldReady.phase ≠ .decoding ∧
    Instr.crc ∈ [Instr.extract, .cycle, .clear, .nop, .crc] := by decide

/-- READY left by CLEAR, FAILED left by EXTRACT, READY left by reset. -/
theorem witness_RestStatesAreLeftByFourThings :
    (oneFieldReady.phase = .ready ∧ ∃ t, step (oneFieldReady.withFetchWord 16 1) = .next t ∧ t.phase ≠ .ready) ∧
    (∃ t, step { oneField with phase := .failed, port := [.request (.cmd16 2#16)] } = .next t ∧ t.phase ≠ .failed) ∧
    (∃ t, step { oneFieldReady with port := [.resetInput] } = .next t ∧ t.phase ≠ .ready) :=
  ⟨⟨by decide, _, rfl, by decide⟩, ⟨_, rfl, by decide⟩, ⟨_, rfl, by decide⟩⟩

theorem witness_CommandsKeepTheInputs :
    Instr.cycle ∈ [Instr.nop, .clear, .extract, .verify, .decode, .cycle, .crc] ∧ Instr.cycle ≠ .crc := by decide

/-- The three cases of EXTRACT: no SOF, no EOF, and a frame behind garbage (vectors X2, X7, X3). -/
theorem witness_ExtractHoldsTheFirstFrame_noSof : ∀ i, ¬ (loaded [0x1A#8]).MarkerAt 0x1A#8 0x85#8 i := by
  intro i h
  have h1 : i + 2 ≤ 1 := h.1
  omega
theorem witness_ExtractHoldsTheFirstFrame_noEof :
    (loaded [0x1A#8, 0x85#8, 0x22#8]).FirstMarker 0x1A#8 0x85#8 0 0 ∧
    ∀ j, 0 + 2 ≤ j → ¬ (loaded [0x1A#8, 0x85#8, 0x22#8]).MarkerAt 0x22#8 0xCE#8 j := by
  refine ⟨⟨by decide, ⟨by decide, by decide, by decide⟩, by omega⟩, ?_⟩
  intro j hj h
  have h1 : j + 2 ≤ 3 := h.1
  omega
theorem witness_ExtractHoldsTheFirstFrame_frame :
    (loaded [0x00#8, 0x1A#8, 0x85#8, 0x01#8, 0x02#8, 0x22#8, 0xCE#8]).FirstMarker 0x1A#8 0x85#8 0 1 ∧
    (loaded [0x00#8, 0x1A#8, 0x85#8, 0x01#8, 0x02#8, 0x22#8, 0xCE#8]).FirstMarker 0x22#8 0xCE#8 (1 + 2) 5 := by
  refine ⟨⟨by decide, ⟨by decide, by decide, by decide⟩, ?_⟩, ⟨by decide, ⟨by decide, by decide, by decide⟩, ?_⟩⟩
  · intro j _ hj h
    obtain rfl : j = 0 := by omega
    exact absurd h.2.1 (by decide)
  · intro j _ hj h
    obtain rfl | rfl : j = 3 ∨ j = 4 := by omega
    · exact absurd h.2.1 (by decide)
    · exact absurd h.2.1 (by decide)

/-- Two states that agree below IBUF_LEN and differ in a byte at it, in STATE and in the profile. -/
theorem witness_ExtractDependsOnTheValidBytesOnly :
    ({ failedSof with ibuf := oneField.ibuf ++ [(11, 0xFF#8)], ibufLen := 11#16, vcount := 9#16 } : State).cfg =
      oneField.cfg ∧
    ({ failedSof with ibuf := oneField.ibuf ++ [(11, 0xFF#8)], ibufLen := 11#16, vcount := 9#16 } : State).ibufLen =
      oneField.ibufLen ∧
    ∀ k, k < oneField.ibufLen.toNat →
      ({ failedSof with ibuf := oneField.ibuf ++ [(11, 0xFF#8)], ibufLen := 11#16, vcount := 9#16 } : State).ibufByte k =
        oneField.ibufByte k := by decide

theorem witness_CrcDetectsASingleByteError : (0x02#8 : Byte) ≠ 0x03#8 := by decide

/-- The cases of VERIFY: out of sequence, too short by one byte, the least length with CRCs that differ, a match. -/
theorem witness_VerifyChecksAndStrips :
    oneField.phase ≠ .verifying ∧
    (shortFrame.phase = .verifying ∧ ({ shortFrame with frameLen := 5#16 } : State).frameLen.toNat < 6) ∧
    (wrongCrc.phase = .verifying ∧ 6 ≤ wrongCrc.frameLen.toNat ∧
      crc16 (wrongCrc.bufRange 2 2) ≠ wrongCrc.ibufByte 2 ++ wrongCrc.ibufByte 3) ∧
    (oneFieldHeld.phase = .verifying ∧ 6 ≤ oneFieldHeld.frameLen.toNat ∧
      crc16 (oneFieldHeld.bufRange 2 7) = oneFieldHeld.ibufByte 7 ++ oneFieldHeld.ibufByte 8) := by decide

/-- The frame `1A 85 01 02 03 AD AD 22 CE`, the least whose slice does not cross, and the 8-byte `1A 85 01 02 0E 7C
22 CE`; the CRCs are those of the step trace in 95_test_vectors.md section 2. -/
def nineBytes : State :=
  { loaded [0x1A#8, 0x85#8, 0x01#8, 0x02#8, 0x03#8, 0xAD#8, 0xAD#8, 0x22#8, 0xCE#8] with
    phase := .verifying, eofIdx := 7#16, frameLen := 9#16 }
def eightBytes : State :=
  { loaded [0x1A#8, 0x85#8, 0x01#8, 0x02#8, 0x0E#8, 0x7C#8, 0x22#8, 0xCE#8] with
    phase := .verifying, eofIdx := 6#16, frameLen := 8#16 }

theorem witness_ResetProfileSlice :
    (nineBytes.phase = .verifying ∧ nineBytes.hdrEnd = 5#16 ∧ nineBytes.tailTrim = 4#16 ∧
      nineBytes.sofIdx.toNat + nineBytes.frameLen.toNat ≤ 65535 ∧ crc16 nineBytes.crcData = nineBytes.crcField ∧
      9 ≤ nineBytes.frameLen.toNat) ∧
    (eightBytes.phase = .verifying ∧ eightBytes.hdrEnd = 5#16 ∧ eightBytes.tailTrim = 4#16 ∧
      crc16 eightBytes.crcData = eightBytes.crcField ∧ 6 ≤ eightBytes.frameLen.toNat ∧
      eightBytes.frameLen.toNat ≤ 8) := by decide

theorem witness_P24SliceFrameLengths :
    emptyFrame.phase = .verifying ∧ emptyFrame.hdrEnd = P24Slice.std.registers.1 ∧
    emptyFrame.tailTrim = P24Slice.std.registers.2 ∧ 6 ≤ emptyFrame.frameLen.toNat ∧
    crc16 emptyFrame.crcData = emptyFrame.crcField := by decide

/-- The first and the last byte of the data of `oneField` changed. -/
theorem witness_VerifyCatchesASingleByteCorruption :
    oneFieldHeld.Inv ∧ oneFieldHeld.phase = .verifying ∧
    (∃ t, exec .verify oneFieldHeld = .next t ∧ t.phase = .decoding) ∧
    ∀ k ∈ [2, 6], oneFieldHeld.sofIdx.toNat + 2 ≤ k ∧
      k < oneFieldHeld.sofIdx.toNat + oneFieldHeld.frameLen.toNat - 4 ∧
      ({ oneFieldHeld with ibuf := Memory.set oneFieldHeld.ibuf k 0xFF#8 } : State).ibufByte k ≠
        oneFieldHeld.ibufByte k ∧
      ∀ j, j ≠ k → ({ oneFieldHeld with ibuf := Memory.set oneFieldHeld.ibuf k 0xFF#8 } : State).ibufByte j =
        oneFieldHeld.ibufByte j := by
  refine ⟨inv_oneFieldHeld, by decide, ⟨_, rfl, by decide⟩, ?_⟩
  intro k hk
  refine ⟨?_, ?_, ?_, fun j hj => by rw [State.ibufByte_set, if_neg hj]⟩ <;> revert k <;> decide

/-- The range of vector K1, which ends at IBUF_LEN, and that of vector K2, one byte more. -/
def wholeRange : State := { asciiDigits with crcArgLen := 9#16 }
def pastRange : State := { asciiDigits with crcArgStart := 5#16, crcArgLen := 5#16 }

theorem witness_CrcCommandResult :
    wholeRange.crcArgStart.toNat + wholeRange.crcArgLen.toNat ≤ wholeRange.ibufLen.toNat ∧
    pastRange.ibufLen.toNat < pastRange.crcArgStart.toNat + pastRange.crcArgLen.toNat := by decide

theorem witness_CrcCommandCornerCases :
    (({ asciiDigits with crcArgStart := 9#16 } : State).crcArgLen = 0#16 ∧ 9 ≤ asciiDigits.ibufLen.toNat) ∧
    (({ asciiDigits with crcArgStart := 10#16 } : State).crcArgLen = 0#16 ∧ asciiDigits.ibufLen.toNat < 10) ∧
    ({ oneFieldHeld with crcArgStart := 2#16, crcArgLen := 5#16 } : State).Inv ∧
    oneFieldHeld.phase = .verifying ∧ 6 ≤ oneFieldHeld.frameLen.toNat ∧
    2 = oneFieldHeld.sofIdx.toNat + 2 ∧ 5 = oneFieldHeld.frameLen.toNat - 6 := by
  refine ⟨by decide, by decide, ?_, by decide⟩
  constructor
  case unusedFields => exact zeros_of_all (by decide)
  all_goals decide

/-- The four cases of DECODE: out of sequence, N + M = FIELD_CAP + 1, a length that differs, a match. -/
def fiveFields : State := { oneFieldVerified with vcount := 3#16, tcount := 2#16 }
def fourFields : State := { oneFieldVerified with vcount := 3#16, tcount := 1#16 }

theorem witness_DecodeWritesTheReading :
    oneField.phase ≠ .decoding ∧
    (fiveFields.phase = .decoding ∧ fiveFields.cfg.fieldCap < fiveFields.vcount.toNat + fiveFields.tcount.toNat) ∧
    (fourFields.phase = .decoding ∧ fourFields.vcount.toNat + fourFields.tcount.toNat ≤ fourFields.cfg.fieldCap ∧
      fourFields.payloadLen.toNat ≠ 2 * (fourFields.vcount.toNat + fourFields.tcount.toNat)) ∧
    (({ fourFields with payloadLen := 8#16 } : State).payloadLen.toNat =
      2 * (fourFields.vcount.toNat + fourFields.tcount.toNat)) := by decide

/-- A voltage, a temperature and no field, in the reading of one of each. -/
theorem witness_ScaledFieldValue :
    ({ oneFieldReady with rdTcount := 1#16 } : State).phase = .ready ∧ 0 < oneFieldReady.rdVcount.toNat ∧
    (oneFieldReady.rdVcount.toNat ≤ 1 ∧ 1 < oneFieldReady.rdVcount.toNat + (1#16 : Word).toNat) ∧
    oneFieldReady.rdVcount.toNat + (1#16 : Word).toNat ≤ 2 ∧ oneFieldReady.Inv :=
  ⟨by decide, by decide, by decide, by decide, inv_oneFieldReady⟩

theorem witness_ScaledFieldRange :
    oneFieldReady.scaled? 0 = some (((sint16 0x0064#16 : Int) : Rat) / (10 : Rat) ^ 3) ∧
    0 < oneFieldReady.rdVcount.toNat ∧ oneFieldReady.rdVexp = 3#2 ∧
    ({ oneFieldReady with rdVcount := 0#16, rdTcount := 1#16 } : State).scaled? 0 =
      some (((sint16 0x0064#16 : Int) : Rat) / (10 : Rat) ^ 1) ∧ oneFieldReady.rdTexp = 1#2 :=
  ⟨rfl, by decide, by decide, rfl, by decide⟩

theorem witness_HeldReadingIsLatched :
    oneFieldReady.phase = .ready ∧ (∃ r v, r ≠ 0x00#8 ∧ Instr.regWrite 0x05#8 7#16 = .regWrite r v) ∧
    (∃ a b, Instr.bufWrite 5#16 0#8 = .bufWrite a b) :=
  ⟨by decide, ⟨_, _, by decide, rfl⟩, ⟨_, _, rfl⟩⟩

/-- FIELD written by a DECODE, and cleared by a CLEAR. -/
theorem witness_FieldIsWrittenByDecodeOnly :
    (∃ t, step { oneFieldVerified with vcount := 1#16, port := [.request (.cmd16 4#16)] } = .next t ∧
      t.field ≠ oneFieldVerified.field ∧ t.phase = .ready) ∧
    (∃ t, step (oneFieldReady.withFetchWord 16 1) = .next t ∧ t.field ≠ oneFieldReady.field) :=
  ⟨⟨_, rfl, by decide⟩, ⟨_, rfl, by decide⟩⟩

/-- The ends of the FIELD window and of the reserved numbers. -/
theorem witness_RegReadReturnsTheRegister :
    (0x40 ≤ (0x43#8 : RegNum).toNat ∧ (0x43#8 : RegNum).toNat - 0x40 < oneField.cfg.fieldCap) ∧
    (0x40 ≤ (0x44#8 : RegNum).toNat ∧ oneField.cfg.fieldCap ≤ (0x44#8 : RegNum).toNat - 0x40) ∧
    0x19 ≤ (0x19#8 : RegNum).toNat ∧ (0x3F#8 : RegNum).toNat ≤ 0x3F := by decide

theorem witness_RegWriteEffect :
    (0x0010#16 : Word).extractLsb' 4 12 ≠ 0#12 ∧ oneFieldHeld.phase = .verifying ∧
    0x19 ≤ (0x19#8 : RegNum).toNat ∧ 0x19 ≤ (0xFF#8 : RegNum).toNat := by decide

/-- The last index below BUF_CAP, and BUF_CAP, in a state that holds a view and in one that does not. -/
theorem witness_BufTransactionEffect :
    (63#16 : BufIdx).toNat < oneField.cfg.bufCap ∧ oneField.cfg.bufCap ≤ (64#16 : BufIdx).toNat ∧
    (oneFieldVerified.phase = .verifying ∨ oneFieldVerified.phase = .decoding) ∧
    ¬ (oneField.phase = .verifying ∨ oneField.phase = .decoding) := by decide

theorem witness_IbufWriteDropsAHeldView :
    (∃ (a : BufIdx) (b : Byte), a.toNat < oneFieldHeld.cfg.bufCap ∧ Instr.bufWrite 63#16 1#8 = .bufWrite a b) ∧
    (∃ v, Instr.regWrite 0x04#8 41#16 = .regWrite 0x04#8 v) ∧ oneFieldHeld.phase = .verifying ∧
    oneFieldReady.phase = .ready :=
  ⟨⟨_, _, by decide, rfl⟩, ⟨_, rfl⟩, by decide, by decide⟩

theorem witness_ReadsAndWritesAreIdempotent :
    (∃ r, Instr.regRead 0x02#8 = .regRead r) ∧ (∃ a, Instr.bufRead 0#16 = .bufRead a) ∧
    (∃ r v, r ≠ 0x00#8 ∧ Instr.regWrite 0x04#8 9#16 = .regWrite r v) ∧
    (∃ a b, Instr.bufWrite 0#16 1#8 = .bufWrite a b) :=
  ⟨⟨_, rfl⟩, ⟨_, rfl⟩, ⟨_, _, by decide, rfl⟩, ⟨_, _, rfl⟩⟩

theorem witness_WriteThenReadBack :
    oneField.cfg.wellFormed = true ∧ (63#16 : BufIdx).toNat < oneField.cfg.bufCap := by decide

theorem witness_CapacitiesAreConstant :
    ∃ t, step (oneField.withFetchWord 16 5) = .next t ∧ t.phase = .failed := ⟨_, rfl, by decide⟩

theorem witness_EveryStepKeepsTheInvariant :
    oneFieldHeld.Inv ∧ ∃ t, step oneFieldHeld = .next t := ⟨inv_oneFieldHeld, _, rfl⟩

theorem witness_FrameItemAsWrittenIsKept :
    oneFieldReady.Inv ∧ oneFieldReady.FrameItemAsWritten ∧ ∃ t, step oneFieldReady = .next t :=
  ⟨inv_oneFieldReady, ⟨by decide, by decide⟩, _, rfl⟩

theorem inv_oneFieldVerified_profile : ({ oneFieldVerified with vcount := 1#16 } : State).Inv := by
  constructor
  case unusedFields => exact zeros_of_all (by decide)
  all_goals decide
theorem inv_oneField_profile : ({ oneField with vcount := 1#16 } : State).Inv := by
  constructor
  case unusedFields => exact zeros_of_all (by decide)
  all_goals decide

/-- The R170 example through DECODE, and the same frame through CYCLE. -/
theorem witness_ReadyComesFromAVerifiedFrame :
    ({ oneFieldVerified with vcount := 1#16 } : State).Inv ∧
    (∃ t, exec .decode { oneFieldVerified with vcount := 1#16 } = .next t ∧ t.cmdStatus = .ok ∧ t.phase = .ready) ∧
    ({ oneField with vcount := 1#16 } : State).Inv ∧
    (∃ t, exec .cycle { oneField with vcount := 1#16 } = .next t ∧ t.cmdStatus = .ok ∧ t.phase = .ready) :=
  ⟨inv_oneFieldVerified_profile, ⟨_, rfl, by decide⟩, inv_oneField_profile, ⟨_, rfl, by decide⟩⟩

theorem witness_EngineReadsValidBytesOnly :
    oneField.Inv ∧ Instr.cycle ∈ [Instr.nop, .clear, .extract, .verify, .decode, .cycle, .crc] ∧
    (∀ k, k < oneField.ibufLen.toNat →
      ({ oneField with ibuf := oneField.ibuf ++ [(11, 0xFF#8)], draw := 7 } : State).ibufByte k = oneField.ibufByte k) ∧
    ∃ t, exec .cycle oneField = .next t := ⟨inv_oneField, by decide, by decide, _, rfl⟩

/-- The header `01 02 03` and the payload `00 64` of R145's example. -/
theorem witness_WireFrameRoundTrip :
    oneField.Loaded (wireFrame ([0x01#8, 0x02#8, 0x03#8] ++ [0x00#8, 0x64#8])) ∧
    NoEofInside ([0x01#8, 0x02#8, 0x03#8] ++ [0x00#8, 0x64#8] ++
      be16 (crc16 ([0x01#8, 0x02#8, 0x03#8] ++ [0x00#8, 0x64#8]))) ∧
    oneField.hdrEnd.toNat = 2 + [0x01#8, 0x02#8, 0x03#8].length ∧ oneField.tailTrim = 4#16 := by
  refine ⟨⟨by decide, by decide⟩, ?_, by decide, by decide⟩
  intro k h
  have hk : k < 6 := by
    change k + 1 < 7 at h
    omega
  interval_cases k <;> decide +revert

theorem witness_CycleDecodesAWireFrame :
    ({ oneField with vcount := 1#16 } : State).Loaded (wireFrame ([0x01#8, 0x02#8, 0x03#8] ++ [0x00#8, 0x64#8])) ∧
    [0x00#8, 0x64#8].length = 2 * ((1#16 : Word).toNat + oneField.tcount.toNat) ∧
    (1#16 : Word).toNat + oneField.tcount.toNat ≤ oneField.cfg.fieldCap ∧
    NoEofInside ([0x01#8, 0x02#8, 0x03#8] ++ [0x00#8, 0x64#8] ++
      be16 (crc16 ([0x01#8, 0x02#8, 0x03#8] ++ [0x00#8, 0x64#8]))) :=
  ⟨⟨by decide, by decide⟩, by decide, by decide, witness_WireFrameRoundTrip.2.1⟩

theorem witness_SetbufLoadsTheBytes :
    [0x1A#8, 0x85#8].length ≤ oneField.cfg.bufCap ∧ oneField.cfg.wellFormed = true ∧
    ¬ (oneField.phase = .verifying ∨ oneField.phase = .decoding) := by decide

theorem witness_InstancesShareNothing :
    ∃ sys', stepInstance [oneField, oneFieldHeld] ⟨0, by decide⟩ = .next sys' := ⟨_, rfl⟩

end Sys2Proof.Tests
end

section
/-! The commands' frame: what the engine leaves alone (R11, R44, R102). -/

namespace Sys2Proof.Machine

open Sys2Proof

/-! ### The frame of a pipeline stage, and the updates that stay within it -/

/-- What no pipeline stage touches: the inputs, and the CRC command's result register (R44). -/
def State.StageFrame (s t : State) : Prop := s.SameInputs t ∧ t.crcResult = s.crcResult

@[simp] theorem State.StageFrame.refl (s : State) : s.StageFrame s := by
  simp [State.StageFrame, State.SameInputs]

theorem State.StageFrame.trans {s t u : State} (hst : s.StageFrame t) (htu : t.StageFrame u) : s.StageFrame u := by
  simp_all [State.StageFrame, State.SameInputs]

@[simp] theorem State.stageFrame_setCmdStatus (s t : State) (c : CmdStatus) :
    s.StageFrame (t.setCmdStatus c) ↔ s.StageFrame t := Iff.rfl
@[simp] theorem State.stageFrame_setPhase (s t : State) (p : Phase) :
    s.StageFrame (t.setPhase p) ↔ s.StageFrame t := Iff.rfl
@[simp] theorem State.stageFrame_clearResults (s t : State) :
    s.StageFrame t.clearResults ↔ s.StageFrame t := Iff.rfl
@[simp] theorem State.stageFrame_raiseFailure (s t : State) (code : Err) :
    s.StageFrame (t.raiseFailure code) ↔ s.StageFrame t := Iff.rfl
@[simp] theorem State.stageFrame_raiseCmdError (s t : State) (code : CmdStatus) :
    s.StageFrame (t.raiseCmdError code) ↔ s.StageFrame t := Iff.rfl
@[simp] theorem State.stageFrame_toIdle (s t : State) :
    s.StageFrame t.toIdle ↔ s.StageFrame t := Iff.rfl
@[simp] theorem State.stageFrame_holdSof (s t : State) (sof : Nat) :
    s.StageFrame (t.holdSof sof) ↔ s.StageFrame t := Iff.rfl
@[simp] theorem State.stageFrame_holdFrame (s t : State) (eof len : Nat) :
    s.StageFrame (t.holdFrame eof len) ↔ s.StageFrame t := Iff.rfl
@[simp] theorem State.stageFrame_holdCrcs (s t : State) (retrieved computed : Word) :
    s.StageFrame (t.holdCrcs retrieved computed) ↔ s.StageFrame t := Iff.rfl
@[simp] theorem State.stageFrame_holdPayload (s t : State) (off len : Nat) :
    s.StageFrame (t.holdPayload off len) ↔ s.StageFrame t := Iff.rfl
@[simp] theorem State.stageFrame_holdReading (s t : State) (fields : List Word) :
    s.StageFrame (t.holdReading fields) ↔ s.StageFrame t := Iff.rfl

/-- IBUF's list and its free contents are all that a byte access reads. -/
theorem State.SameInputs.ibufByte_eq {s t : State} (h : s.SameInputs t) (a : Nat) : t.ibufByte a = s.ibufByte a := by
  obtain ⟨-, hibuf, hdraw, -⟩ := h
  exact State.ibufByte_congr hibuf hdraw a

/-! ### The three stage bodies -/

theorem extractBody_stageFrame (s : State) : s.StageFrame (extractBody s).state := by
  obtain ⟨-, h⟩ | ⟨sof, -, -, h⟩ | ⟨sof, eof, -, -, h⟩ := extractBody_cases s
  · simp [h]
  · simp [h]
  · simp [h]

theorem verifyBody_stageFrame (s : State) : s.StageFrame (verifyBody s).state := by
  obtain ⟨-, h⟩ | ⟨-, -, h⟩ | ⟨-, -, h⟩ := verifyBody_cases s
  · simp [h]
  · simp [h]
  · simp [h]

theorem decodeBody_stageFrame (s : State) : s.StageFrame (decodeBody s).state := by
  obtain ⟨-, h⟩ | ⟨-, -, h⟩ | ⟨-, -, h⟩ := decodeBody_cases s
  · simp [h]
  · simp [h]
  · simp [h]

/-- Stages in sequence stay within the frame when each of them does. -/
theorem State.StageFrame.andThen {s : State} {r : StageResult} {next : State → StageResult}
    (hr : s.StageFrame r.state) (hnext : ∀ t : State, t.StageFrame (next t).state) :
    s.StageFrame (r.andThen next).state := by
  cases r with
  | goesOn t => exact hr.trans (hnext t)
  | ended t => exact hr

/-! ### The commands -/

theorem cmdVerify_stageFrame (s : State) : s.StageFrame (cmdVerify s) := by
  unfold cmdVerify
  split
  · exact verifyBody_stageFrame s
  · simp

theorem cmdDecode_stageFrame (s : State) : s.StageFrame (cmdDecode s) := by
  unfold cmdDecode
  split
  · exact decodeBody_stageFrame s
  · simp

theorem cmdCycle_stageFrame (s : State) : s.StageFrame (cmdCycle s) :=
  have hextract : s.StageFrame (extractBody (s.setCmdStatus .ok)).state := extractBody_stageFrame s
  (hextract.andThen verifyBody_stageFrame).andThen decodeBody_stageFrame

/-- CRC_RESULT and CMD_STATUS are all that CRC writes (R160). -/
theorem cmdCrc_sameInputs (s : State) : s.SameInputs (cmdCrc s) := by
  obtain ⟨-, h⟩ | ⟨-, h⟩ := cmdCrc_cases s
  · simp [h, State.SameInputs]
  · simp [h, State.SameInputs]

/-- Every command but CRC stays within the frame of the stages (R44). -/
theorem afterInstr_stageFrame (s : State) {c : Command} (hc : c ≠ .crc) : s.StageFrame (afterInstr c.instr s) := by
  cases c with
  | nop => exact (s.stageFrame_setCmdStatus s .ok).2 (.refl s)
  | clear => exact (s.stageFrame_toIdle (s.setCmdStatus .ok)).2 (by simp)
  | extract => exact extractBody_stageFrame s
  | verify => exact cmdVerify_stageFrame s
  | decode => exact cmdDecode_stageFrame s
  | cycle => exact cmdCycle_stageFrame s
  | crc => exact absurd rfl hc

/-- Every command leaves the inputs alone (R11, R102). -/
theorem afterInstr_sameInputs (c : Command) (s : State) : s.SameInputs (afterInstr c.instr s) := by
  by_cases hc : c = .crc
  · subst hc
    exact cmdCrc_sameInputs s
  · exact (afterInstr_stageFrame s hc).1

/-- The seven command instructions are the instructions of the seven commands (R102). -/
theorem exists_command_of_mem {i : Instr}
    (hi : i ∈ [Instr.nop, .clear, .extract, .verify, .decode, .cycle, .crc]) : ∃ c : Command, c.instr = i := by
  simp only [List.mem_cons, List.not_mem_nil, or_false] at hi
  obtain rfl | rfl | rfl | rfl | rfl | rfl | rfl := hi
  exacts [⟨.nop, rfl⟩, ⟨.clear, rfl⟩, ⟨.extract, rfl⟩, ⟨.verify, rfl⟩, ⟨.decode, rfl⟩, ⟨.cycle, rfl⟩, ⟨.crc, rfl⟩]

/-- Settles O26: each command is a chain of updates that stay within the frame; CRC alone adds CRC_RESULT. -/
theorem commandsKeepTheInputs : Obligations.CommandsKeepTheInputs := by
  intro i hi s
  obtain ⟨c, rfl⟩ := exists_command_of_mem hi
  have hin : s.SameInputs (afterInstr c.instr s) := afterInstr_sameInputs c s
  refine ⟨afterInstr c.instr s, exec_eq_next c.instr s, hin, hin.ibufByte_eq, fun hcrc => ?_⟩
  have hc : c ≠ .crc := fun h => hcrc (congrArg Command.instr h)
  exact (afterInstr_stageFrame s hc).2

end Sys2Proof.Machine
end

section
/-! What an instruction and a step can come to: a command, a rejected command word, a write of IBUF or IBUF_LEN, or
an update of the registers that only the host writes (R73, R74). -/

namespace Sys2Proof.Machine

open Sys2Proof

/-! ### What the host writes -/

/-- IBUF and IBUF_LEN after a host write, before the invalidation. -/
def State.loadIbuf (s : State) (m : Memory) (n : Word) : State := { s with ibuf := m, ibufLen := n }

/-- The profile registers, the arguments of CRC and the outside world's side of the port, taken from `p`. -/
def State.withHostSide (s p : State) : State :=
  { s with
    vcount := p.vcount, tcount := p.tcount, hdrEnd := p.hdrEnd, tailTrim := p.tailTrim, vexp := p.vexp
    texp := p.texp, crcArgStart := p.crcArgStart, crcArgLen := p.crcArgLen, port := p.port, reply := p.reply }

/-- The part of the invariant that speaks of the configuration, IBUF and IBUF_LEN alone (R6, R7, R26, R48). -/
structure State.InputsFit (s : State) : Prop where
  cfg : s.cfg.wellFormed = true
  memory : Memory.wf s.ibuf = true
  memoryBelow : Memory.below s.ibuf s.cfg.bufCap = true
  ibufLen : s.ibufLen.toNat ≤ s.cfg.bufCap

theorem State.Inv.inputsFit {s : State} (h : s.Inv) : s.InputsFit := ⟨h.cfg, h.memory, h.memoryBelow, h.ibufLen⟩

theorem State.InputsFit.bufCap_lt {s : State} (h : s.InputsFit) : s.cfg.bufCap < 65536 := by
  have hcfg := h.cfg
  simp only [Config.wellFormed, Config.bufCapLegal, Bool.and_eq_true, decide_eq_true_eq] at hcfg
  omega

theorem State.InputsFit.of_sameInputs {s t : State} (h : s.InputsFit) (hst : s.SameInputs t) : t.InputsFit := by
  obtain ⟨hcfg, hibuf, -, hlen, -⟩ := hst
  exact ⟨hcfg ▸ h.cfg, hibuf ▸ h.memory, by simpa [hcfg, hibuf] using h.memoryBelow,
    by simpa [hcfg, hlen] using h.ibufLen⟩

/-- IBUF_LEN is clamped to BUF_CAP (R73). -/
theorem State.InputsFit.loadIbuf_len {s : State} (h : s.InputsFit) (v : Word) :
    (s.loadIbuf s.ibuf (index16 (min v.toNat s.cfg.bufCap))).InputsFit := by
  refine ⟨h.cfg, h.memory, h.memoryBelow, ?_⟩
  change (index16 _).toNat ≤ s.cfg.bufCap
  have hcap := h.bufCap_lt
  rw [index16_toNat (by omega)]
  omega

/-- A BufWrite stores below BUF_CAP only (R72). -/
theorem State.InputsFit.loadIbuf_set {s : State} (h : s.InputsFit) {a : Nat} (ha : a < s.cfg.bufCap) (b : Byte) :
    (s.loadIbuf (Memory.set s.ibuf a b) s.ibufLen).InputsFit :=
  ⟨h.cfg, Memory.set_wf _ _ _ h.memory, Memory.set_below _ _ h.memoryBelow ha, h.ibufLen⟩

/-! ### Writes of CMD -/

/-- A word that decodes to a command is that command's word (R100, R101). -/
theorem eq_word_of_decodeCommand {v : Word} {c : Command} (h : decodeCommand v = .ok c) : v = c.word := by
  unfold decodeCommand at h
  split at h
  · next hrsv =>
    have hop : v.extractLsb' 0 4 = c.op := by
      apply BitVec.eq_of_toNat_eq
      split at h <;> cases h <;> assumption
    rw [← cmd16_join v, hrsv, hop, Command.word]
  · cases h

/-- An HT32 word is a host transaction, never a command (R106). -/
theorem decode_ht32_ne_command (w : BitVec 32) (c : Command) : decode (.ht32 w) ≠ .ok c.instr := by
  intro h
  simp only [decode, decodeTransaction] at h
  split at h
  · split at h
    · split at h <;> cases c <;> cases h
    · cases c <;> cases h
    · split at h <;> cases c <;> cases h
    · cases c <;> cases h
  · cases h

/-- The two instructions that run a command: itself, and the write of its word to CMD (R73, R101). -/
def RunsCommand (i : Instr) (c : Command) : Prop := i = c.instr ∨ i = .regWrite 0x00#8 c.word

/-- What a RegWrite can do, by the register it names (R73). -/
theorem State.writeReg_cases (s : State) (r : RegNum) (v : Word) :
    (r = 0x00#8 ∧ s.writeReg r v = runCommand v s) ∨
    s.writeReg r v = (s.loadIbuf s.ibuf (index16 (min v.toNat s.cfg.bufCap))).invalidate ∨
    s.writeReg r v = s.withHostSide (s.writeReg r v) := by
  cases hr : RegName.ofNumber r with
  | none =>
    have hw : s.writeReg r v = s := by simp [State.writeReg, hr]
    exact .inr (.inr (by rw [hw]; rfl))
  | some n =>
    obtain rfl := RegName.number_of_ofNumber hr
    rw [State.writeReg_number]
    cases n
    case cmd => exact .inl ⟨rfl, rfl⟩
    case ibufLen => exact .inr (.inl rfl)
    all_goals exact .inr (.inr rfl)

/-- What an instruction can do, with what a write of IBUF or IBUF_LEN keeps. -/
theorem afterInstr_cases (i : Instr) (s : State) :
    (∃ c, RunsCommand i c ∧ afterInstr i s = afterInstr c.instr s) ∨
    (∃ v, i = .regWrite 0x00#8 v ∧ afterInstr i s = s.raiseCmdError .illegal) ∨
    (∃ m n, afterInstr i s = (s.loadIbuf m n).invalidate ∧ (s.InputsFit → (s.loadIbuf m n).InputsFit)) ∨
    afterInstr i s = s.withHostSide (afterInstr i s) := by
  cases i with
  | nop => exact .inl ⟨.nop, .inl rfl, rfl⟩
  | clear => exact .inl ⟨.clear, .inl rfl, rfl⟩
  | extract => exact .inl ⟨.extract, .inl rfl, rfl⟩
  | verify => exact .inl ⟨.verify, .inl rfl, rfl⟩
  | decode => exact .inl ⟨.decode, .inl rfl, rfl⟩
  | cycle => exact .inl ⟨.cycle, .inl rfl, rfl⟩
  | crc => exact .inl ⟨.crc, .inl rfl, rfl⟩
  | regRead r => exact .inr (.inr (.inr rfl))
  | bufRead a => exact .inr (.inr (.inr rfl))
  | bufWrite a b =>
    refine .inr (.inr ?_)
    simp only [afterInstr, State.writeBuf]
    split
    · next ha => exact .inl ⟨_, _, rfl, fun h => h.loadIbuf_set ha b⟩
    · exact .inr rfl
  | regWrite r v =>
    obtain ⟨rfl, hw⟩ | hw | hw := s.writeReg_cases r v
    · cases hd : decodeCommand v with
      | ok c =>
        obtain rfl := eq_word_of_decodeCommand hd
        exact .inl ⟨c, .inr rfl, hw.trans (runCommand_of_ok hd s)⟩
      | rejected e => exact .inr (.inl ⟨v, rfl, hw.trans (runCommand_of_rejected hd s)⟩)
    · exact .inr (.inr (.inl ⟨_, _, hw, fun h => h.loadIbuf_len v⟩))
    · exact .inr (.inr (.inr hw))

/-- What a step that answers a next state did: nothing, reset, an instruction, or an illegal command word. -/
theorem step_next_cases {s t : State} (h : step s = .next t) :
    t = s ∨
    (∃ rest, s.port = .resetInput :: rest ∧ t = s.resetInput rest) ∨
    (∃ w rest i, s.port = .request w :: rest ∧ decode w = .ok i ∧ t = afterInstr i (s.take rest)) ∨
    (∃ v rest, s.port = .request (.cmd16 v) :: rest ∧ t = (s.take rest).raiseCmdError .illegal) := by
  obtain ⟨-, hs⟩ | ⟨rest, hp, hs⟩ | ⟨w, rest, -, hs⟩ | ⟨w, rest, i, hp, hd, hs⟩ | ⟨v, rest, r, hp, -, hs⟩ |
    ⟨w, rest, r, -, -, hs⟩ := step_cases s
  all_goals rw [hs] at h; cases h
  · exact .inl rfl
  · exact .inr (.inl ⟨rest, hp, rfl⟩)
  · exact .inr (.inr (.inl ⟨w, rest, i, hp, hd, rfl⟩))
  · exact .inr (.inr (.inr ⟨v, rest, hp, rfl⟩))

end Sys2Proof.Machine
end

section
/-! The invariant, phase by phase, through the pipeline stages and every step (R52, R223). -/

namespace Sys2Proof.Machine

open Sys2Proof

/-! ### What the parts of the invariant give each other -/

theorem State.FrameWithin.mono {s : State} {a b : Nat} (h : s.FrameWithin a) (hab : a ≤ b) : s.FrameWithin b := by
  obtain ⟨horder, hlen, hend⟩ := h
  exact ⟨horder, hlen, hend.trans hab⟩

/-- SOF_IDX, EOF_IDX, PAYLOAD_OFF, FRAME_LEN and PAYLOAD_LEN are at most BUF_CAP (R52 item 7). -/
abbrev State.ViewBounds (s : State) : Prop :=
  s.sofIdx.toNat ≤ s.cfg.bufCap ∧ s.eofIdx.toNat ≤ s.cfg.bufCap ∧ s.payloadOff.toNat ≤ s.cfg.bufCap ∧
  s.frameLen.toNat ≤ s.cfg.bufCap ∧ s.payloadLen.toNat ≤ s.cfg.bufCap

theorem State.FrameWithin.viewBounds_of_cleared {s : State} (h : s.FrameWithin s.cfg.bufCap)
    (hpay : s.PayloadCleared) : s.ViewBounds := by
  obtain ⟨horder, hlen, hend⟩ := h
  obtain ⟨hoff, hplen⟩ := hpay
  simp only [State.ViewBounds, hoff, hplen, BitVec.toNat_ofNat, Nat.zero_mod]
  omega

theorem State.FrameWithin.viewBounds_of_held {s : State} (h : s.FrameWithin s.cfg.bufCap)
    (hpay : s.PayloadHeld) : s.ViewBounds := by
  obtain ⟨horder, hlen, hend⟩ := h
  obtain ⟨-, -, hlo, hhi⟩ := hpay
  refine ⟨?_, ?_, ?_, ?_, ?_⟩ <;> omega

theorem State.ReadingCleared.fieldLength {s : State} (h : s.ReadingCleared) : s.field.length = s.cfg.fieldCap := by
  obtain ⟨-, -, -, -, hfield⟩ := h
  simp [hfield]

theorem State.ReadingCleared.unusedFields {s : State} (h : s.ReadingCleared) (n : Nat) :
    ∀ v ∈ s.field.drop n, v = 0#16 := by
  obtain ⟨-, -, -, -, hfield⟩ := h
  rw [hfield, List.drop_replicate]
  exact fun v hv => List.eq_of_mem_replicate hv

/-- No failure is recorded outside FAILED (R52 item 2). -/
theorem State.Inv.err_eq_none {s : State} (h : s.Inv) (hp : s.phase ≠ .failed) : s.err = .none :=
  not_not.1 fun herr => hp (h.failedIff.2 herr)

/-! ### The invariant in each phase -/

theorem State.inv_of_idle {s : State} (hfit : s.InputsFit) (hp : s.phase = .idle) (hclear : s.ResultsCleared) :
    s.Inv := by
  have ⟨herr, hsof, ⟨heof, hlen⟩, _, ⟨hoff, hplen⟩, hread⟩ := hclear
  constructor
  case fieldLength => exact hread.fieldLength
  case unusedFields => exact hread.unusedFields _
  case noReading => exact fun _ => hread
  case bounds => simp [hsof, heof, hlen, hoff, hplen]
  case idle => exact fun _ => hclear
  all_goals simp [hp, herr, hfit.cfg, hfit.memory, hfit.memoryBelow, hfit.ibufLen]

theorem State.inv_of_verifying {s : State} (hfit : s.InputsFit) (hp : s.phase = .verifying) (herr : s.err = .none)
    (hframe : s.FrameWithin s.ibufLen.toNat) (hmark : s.MarkersStand) (hcrc : s.CrcsCleared)
    (hpay : s.PayloadCleared) (hread : s.ReadingCleared) : s.Inv := by
  constructor
  case fieldLength => exact hread.fieldLength
  case unusedFields => exact hread.unusedFields _
  case noReading => exact fun _ => hread
  case bounds => exact (hframe.mono hfit.ibufLen).viewBounds_of_cleared hpay
  case frameView => exact fun _ => ⟨hframe, hmark⟩
  case fresh => exact fun _ => ⟨hcrc, hpay⟩
  all_goals simp [hp, herr, hfit.cfg, hfit.memory, hfit.memoryBelow, hfit.ibufLen]

theorem State.inv_of_decoding {s : State} (hfit : s.InputsFit) (hp : s.phase = .decoding) (herr : s.err = .none)
    (hframe : s.FrameWithin s.ibufLen.toNat) (hmark : s.MarkersStand) (hpay : s.PayloadHeld)
    (hcrc : s.crcRetrieved = s.crcField ∧ s.crcComputed = crc16 s.crcData) (hread : s.ReadingCleared) : s.Inv := by
  constructor
  case fieldLength => exact hread.fieldLength
  case unusedFields => exact hread.unusedFields _
  case noReading => exact fun _ => hread
  case bounds => exact (hframe.mono hfit.ibufLen).viewBounds_of_held hpay
  case frameView => exact fun _ => ⟨hframe, hmark⟩
  case payload => exact fun _ => hpay
  case verified => exact fun _ => hcrc
  all_goals simp [hp, herr, hfit.cfg, hfit.memory, hfit.memoryBelow, hfit.ibufLen]

theorem State.inv_of_ready {s : State} (hfit : s.InputsFit) (hp : s.phase = .ready) (herr : s.err = .none)
    (hframe : s.FrameWithin s.cfg.bufCap) (hpay : s.PayloadHeld)
    (hread : s.payloadLen.toNat = 2 * (s.rdVcount.toNat + s.rdTcount.toNat) ∧
      s.rdVcount.toNat + s.rdTcount.toNat ≤ s.cfg.fieldCap)
    (hfield : s.field.length = s.cfg.fieldCap)
    (hunused : ∀ v ∈ s.field.drop (s.rdVcount.toNat + s.rdTcount.toNat), v = 0#16) : s.Inv := by
  constructor
  case fieldLength => exact hfield
  case unusedFields => exact hunused
  case bounds => exact hframe.viewBounds_of_held hpay
  case frameReady => exact fun _ => hframe
  case payload => exact fun _ => hpay
  case reading => exact fun _ => hread
  all_goals simp [hp, herr, hfit.cfg, hfit.memory, hfit.memoryBelow, hfit.ibufLen]

/-- The row of R223 that a failure asks for, as the invariant words it. -/
def State.RecordOf (s : State) : Err → Prop
  | .none => False
  | .markerNotFoundSof => s.sofIdx = 0#16 ∧ s.FrameCleared ∧ s.CrcsCleared ∧ s.PayloadCleared
  | .markerNotFoundEof => s.FrameCleared ∧ s.CrcsCleared ∧ s.PayloadCleared
  | .frameTooShort =>
    s.FrameWithin s.cfg.bufCap ∧ (s.frameLen = 4#16 ∨ s.frameLen = 5#16) ∧ s.CrcsCleared ∧ s.PayloadCleared
  | .crcMismatch => s.FrameWithin s.cfg.bufCap ∧ s.crcRetrieved ≠ s.crcComputed ∧ s.PayloadCleared
  | .payloadLengthMismatch | .profileInvalid => s.FrameWithin s.cfg.bufCap ∧ s.PayloadHeld

theorem State.raiseFailure_readingCleared (s : State) (code : Err) : (s.raiseFailure code).ReadingCleared :=
  ⟨rfl, rfl, rfl, rfl, rfl⟩

/-- The pipeline failure entry meets the invariant where its row of R223 stands. -/
theorem State.raiseFailure_inv {s : State} {code : Err} (hfit : s.InputsFit) (hbounds : s.ViewBounds)
    (hrec : s.RecordOf code) : (s.raiseFailure code).Inv := by
  have hread := s.raiseFailure_readingCleared code
  have hcode : code ≠ .none := by rintro rfl; exact hrec
  constructor
  case fieldLength => exact hread.fieldLength
  case unusedFields => exact hread.unusedFields _
  case noReading => exact fun _ => hread
  case bounds => exact hbounds
  case failedIff => simp [hcode]
  case noSof | noEof | tooShort | mismatch => rintro rfl; exact hrec
  case decodeFailed => rintro (rfl | rfl) <;> exact hrec
  all_goals simp [hfit.cfg, hfit.memory, hfit.memoryBelow, hfit.ibufLen]

/-! ### The stages -/

/-- What a stage comes to: a state that meets the invariant, in phase `p` where the command goes on. -/
def StageResult.Reaches (p : Phase) : StageResult → Prop
  | .goesOn t => t.Inv ∧ t.phase = p
  | .ended t => t.Inv

theorem StageResult.Reaches.inv {p : Phase} {r : StageResult} (h : r.Reaches p) : r.state.Inv := by
  cases r with
  | goesOn t => exact h.1
  | ended t => exact h

theorem StageResult.Reaches.andThen {p q : Phase} {r : StageResult} {next : State → StageResult}
    (h : r.Reaches p) (hnext : ∀ t : State, t.Inv → t.phase = p → (next t).Reaches q) :
    (r.andThen next).Reaches q := by
  cases r with
  | goesOn t => exact hnext t h.1 h.2
  | ended t => exact h

theorem State.InputsFit.of_stageFrame {s t : State} (h : s.InputsFit) (hst : s.StageFrame t) : t.InputsFit :=
  h.of_sameInputs hst.1

/-- A marker ends within IBUF_LEN, so its index fits a register (R120). -/
theorem State.InputsFit.index16_of_matchAt {s : State} (hfit : s.InputsFit) {m : Byte × Byte} {i : Nat}
    (h : s.matchAt m i = true) : (index16 i).toNat = i := by
  have hi := ((s.matchAt_iff m i).1 h).1
  have hlen := hfit.ibufLen
  have hcap := hfit.bufCap_lt
  exact index16_toNat (by omega)

/-- A first SOF, and an EOF at or after SOF + 2, make a frame that meets the invariant (R125). -/
theorem State.holdFrame_inv {s : State} (hfit : s.InputsFit) {sof eof : Nat} (hsof : s.matchAt sofMarker sof = true)
    (heof : s.matchAt eofMarker eof = true) (horder : sof + 2 ≤ eof) :
    ((s.searching.holdSof sof).holdFrame eof (eof + 2 - sof)).Inv := by
  have hsofIdx := hfit.index16_of_matchAt hsof
  have heofIdx := hfit.index16_of_matchAt heof
  obtain ⟨-, hsof0, hsof1⟩ := (s.matchAt_iff sofMarker sof).1 hsof
  obtain ⟨hend, heof0, heof1⟩ := (s.matchAt_iff eofMarker eof).1 heof
  have hlen := hfit.ibufLen
  have hcap := hfit.bufCap_lt
  have hframeLen : (index16 (eof + 2 - sof)).toNat = eof + 2 - sof := index16_toNat (by omega)
  apply State.inv_of_verifying (hfit.of_stageFrame (by simp)) rfl rfl
  · simp only [State.FrameWithin, State.holdFrame_sofIdx, State.holdSof_sofIdx, State.holdFrame_eofIdx,
      State.holdFrame_frameLen, hsofIdx, heofIdx, hframeLen]
    exact ⟨horder, trivial, hend⟩
  · simp only [State.MarkersStand, State.holdFrame_sofIdx, State.holdSof_sofIdx, State.holdFrame_eofIdx, hsofIdx,
      heofIdx]
    exact ⟨hsof0, hsof1, heof0, heof1⟩
  · exact ⟨rfl, rfl⟩
  · exact ⟨rfl, rfl⟩
  · exact ⟨rfl, rfl, rfl, rfl, rfl⟩

/-- EXTRACT clears the result group first, so the inputs alone have to fit (R121, R127). -/
theorem extractBody_reaches {s : State} (hfit : s.InputsFit) : (extractBody s).Reaches .verifying := by
  obtain ⟨-, h⟩ | ⟨sof, hsof, -, h⟩ | ⟨sof, eof, hsof, heof, h⟩ := extractBody_cases s <;> rw [h]
  · exact State.raiseFailure_inv (hfit.of_stageFrame (by simp)) (by simp [State.ViewBounds])
      ⟨rfl, ⟨rfl, rfl⟩, ⟨rfl, rfl⟩, rfl, rfl⟩
  · obtain ⟨-, hmatch, -⟩ := (s.findMarker_eq_some _ _ _).1 hsof
    have hidx := hfit.index16_of_matchAt hmatch
    have hend := ((s.matchAt_iff _ _).1 hmatch).1
    refine State.raiseFailure_inv (hfit.of_stageFrame (by simp))
      ⟨?_, Nat.zero_le _, Nat.zero_le _, Nat.zero_le _, Nat.zero_le _⟩ ⟨⟨rfl, rfl⟩, ⟨rfl, rfl⟩, rfl, rfl⟩
    rw [State.holdSof_sofIdx, hidx]
    exact (Nat.le_add_right sof 2).trans (hend.trans hfit.ibufLen)
  · obtain ⟨-, hsofAt, -⟩ := (s.findMarker_eq_some _ _ _).1 hsof
    obtain ⟨horder, heofAt, -⟩ := (s.findMarker_eq_some _ _ _).1 heof
    exact ⟨State.holdFrame_inv hfit hsofAt heofAt horder, rfl⟩

/-- The view that VERIFY holds lies in the frame (R146, R52 item 4). -/
theorem State.holdPayload_payloadHeld {s : State} (hframe : s.FrameWithin s.cfg.bufCap) (hcap : s.cfg.bufCap < 65536)
    (hlen : 6 ≤ s.frameLen.toNat) (hcrc : crc16 s.crcData = s.crcField) :
    (s.checked.holdPayload (s.stripPayload s.sofIdx.toNat s.frameLen.toNat).1
      (s.stripPayload s.sofIdx.toNat s.frameLen.toNat).2).PayloadHeld := by
  obtain ⟨horder, hframeLen, hend⟩ := hframe
  obtain ⟨hlo, hhi⟩ := s.stripPayload_bounds s.sofIdx.toNat s.frameLen.toNat
  refine ⟨hcrc.symm, hlen, ?_, ?_⟩
  · simp only [State.holdPayload_sofIdx, State.holdPayload_payloadOff]
    rw [index16_toNat (by omega)]
    exact hlo
  · simp only [State.holdPayload_sofIdx, State.holdPayload_payloadOff, State.holdPayload_payloadLen,
      State.holdPayload_frameLen]
    rw [index16_toNat (by omega), index16_toNat (by omega)]
    exact hhi

theorem verifyBody_reaches {s : State} (h : s.Inv) (hp : s.phase = .verifying) : (verifyBody s).Reaches .decoding := by
  have hfit := h.inputsFit
  obtain ⟨hframe, hmark⟩ := h.frameView (.inl hp)
  have hcapFrame := hframe.mono h.ibufLen
  obtain ⟨hcrcs, hpay⟩ := h.fresh hp
  obtain ⟨hlt, hv⟩ | ⟨-, hne, hv⟩ | ⟨hge, heq, hv⟩ := verifyBody_cases s <;> rw [hv]
  · have hfour : s.frameLen = 4#16 ∨ s.frameLen = 5#16 := by
      obtain ⟨horder, hlen, -⟩ := hframe
      simp only [← BitVec.toNat_inj, BitVec.toNat_ofNat]
      omega
    exact State.raiseFailure_inv (hfit.of_stageFrame (by simp)) h.bounds ⟨hcapFrame, hfour, hcrcs, hpay⟩
  · exact State.raiseFailure_inv (hfit.of_stageFrame (by simp)) h.bounds ⟨hcapFrame, Ne.symm hne, hpay⟩
  · refine ⟨?_, rfl⟩
    exact State.inv_of_decoding (hfit.of_stageFrame (by simp)) rfl (h.err_eq_none (by simp [hp])) hframe hmark
      (State.holdPayload_payloadHeld hcapFrame hfit.bufCap_lt hge heq) ⟨rfl, rfl⟩ (h.noReading (by simp [hp]))

theorem decodeBody_reaches {s : State} (h : s.Inv) (hp : s.phase = .decoding) : (decodeBody s).Reaches .ready := by
  have hfit := h.inputsFit
  have hframe := (h.frameView (.inr hp)).1.mono h.ibufLen
  have hpay := h.payload (.inl hp)
  obtain ⟨-, hd⟩ | ⟨-, -, hd⟩ | ⟨hcap, hlen, hd⟩ := decodeBody_cases s <;> rw [hd]
  · exact State.raiseFailure_inv (hfit.of_stageFrame (by simp)) h.bounds ⟨hframe, hpay⟩
  · exact State.raiseFailure_inv (hfit.of_stageFrame (by simp)) h.bounds ⟨hframe, hpay⟩
  · have hread := h.noReading (by simp [hp])
    refine ⟨?_, rfl⟩
    refine State.inv_of_ready (hfit.of_stageFrame (by simp)) rfl (h.err_eq_none (by simp [hp])) hframe hpay
      ⟨hlen, hcap⟩ ?_ ?_
    · simp [h.fieldLength, hcap]
    · simpa using hread.unusedFields _

/-! ### What leaves the result group alone -/

/-- STATE and the result group stay, and the inputs fit: the invariant stays, where a held view keeps its bytes and
its bound. -/
theorem State.Inv.of_sameResults {s t : State} (h : s.Inv) (hfit : t.InputsFit) (hcfg : t.cfg = s.cfg)
    (hres : s.SameResults t)
    (hview : s.phase = .verifying ∨ s.phase = .decoding →
      t.ibuf = s.ibuf ∧ t.draw = s.draw ∧ t.ibufLen = s.ibufLen) : t.Inv := by
  cases s
  cases t
  dsimp only [State.SameResults] at *
  obtain ⟨rfl, rfl, rfl, rfl, rfl, rfl, rfl, rfl, rfl, rfl, rfl, rfl, rfl, rfl⟩ := hres
  subst hcfg
  refine { h with
    memory := hfit.memory, memoryBelow := hfit.memoryBelow, ibufLen := hfit.ibufLen
    frameView := fun hp => ?_, verified := fun hp => ?_ }
  · obtain ⟨rfl, rfl, rfl⟩ := hview hp
    exact h.frameView hp
  · obtain ⟨rfl, rfl, rfl⟩ := hview (.inr hp)
    exact h.verified hp

theorem State.Inv.withHostSide {s : State} (h : s.Inv) (p : State) : (s.withHostSide p).Inv :=
  h.of_sameResults { h.inputsFit with } rfl (by simp [State.SameResults, State.withHostSide]) fun _ => ⟨rfl, rfl, rfl⟩

/-- CMD_STATUS and CRC_RESULT are no part of the invariant. -/
theorem State.Inv.of_status {s : State} (h : s.Inv) (c : CmdStatus) (v : Word) :
    ({ s with cmdStatus := c, crcResult := v } : State).Inv :=
  h.of_sameResults { h.inputsFit with } rfl (by simp [State.SameResults]) fun _ => ⟨rfl, rfl, rfl⟩

theorem State.clearResults_resultsCleared (s : State) : s.clearResults.ResultsCleared :=
  ⟨rfl, rfl, ⟨rfl, rfl⟩, ⟨rfl, rfl⟩, ⟨rfl, rfl⟩, rfl, rfl, rfl, rfl, rfl⟩

theorem State.InputsFit.toIdle_inv {s : State} (hfit : s.InputsFit) : s.toIdle.Inv :=
  State.inv_of_idle (hfit.of_stageFrame (by simp)) rfl s.clearResults_resultsCleared

/-- A write of IBUF or IBUF_LEN keeps the invariant, since the invalidation drops a held view (R74). -/
theorem State.Inv.loadIbuf_invalidate {s : State} (h : s.Inv) {m : Memory} {n : Word}
    (hfit : (s.loadIbuf m n).InputsFit) : (s.loadIbuf m n).invalidate.Inv := by
  obtain ⟨-, hinv⟩ | ⟨hview, hinv⟩ := (s.loadIbuf m n).invalidate_cases <;> rw [hinv]
  · exact hfit.toIdle_inv
  · exact h.of_sameResults hfit rfl (by simp [State.SameResults, State.loadIbuf]) fun hp => absurd hp hview

/-! ### Every instruction and every step -/

theorem cmdCycle_inv {s : State} (hfit : s.InputsFit) : (cmdCycle s).Inv :=
  have hextract : (extractBody (s.setCmdStatus .ok)).Reaches .verifying :=
    extractBody_reaches (hfit.of_stageFrame (by simp))
  ((hextract.andThen fun _ => verifyBody_reaches).andThen fun _ => decodeBody_reaches).inv

/-- Every command keeps the invariant. -/
theorem State.Inv.afterCommand {s : State} (h : s.Inv) (c : Command) : (afterInstr c.instr s).Inv := by
  cases c with
  | nop => exact h.of_status _ _
  | clear => exact State.InputsFit.toIdle_inv (h.inputsFit.of_stageFrame (by simp))
  | extract => exact (extractBody_reaches h.inputsFit).inv
  | verify =>
    change (cmdVerify s).Inv
    unfold cmdVerify
    split
    · next hp => exact (verifyBody_reaches h hp).inv
    · exact h.of_status _ _
  | decode =>
    change (cmdDecode s).Inv
    unfold cmdDecode
    split
    · next hp => exact (decodeBody_reaches h hp).inv
    · exact h.of_status _ _
  | cycle => exact cmdCycle_inv h.inputsFit
  | crc =>
    change (cmdCrc s).Inv
    obtain ⟨-, hc⟩ | ⟨-, hc⟩ := cmdCrc_cases s <;> rw [hc]
    · exact h.of_status _ _
    · exact h.of_status _ _

/-- Every instruction keeps the invariant. -/
theorem State.Inv.afterInstr {s : State} (h : s.Inv) (i : Instr) : (afterInstr i s).Inv := by
  obtain ⟨c, -, hi⟩ | ⟨v, -, hi⟩ | ⟨m, n, hi, hfit⟩ | hi := afterInstr_cases i s <;> rw [hi]
  · exact h.afterCommand c
  · exact h.of_status _ _
  · exact h.loadIbuf_invalidate (hfit h.inputsFit)
  · exact h.withHostSide _

/-- The reset state of any legal capacities meets the invariant, whatever stands on the port (R251). -/
theorem State.resetWith_inv {c : Config} (hc : c.wellFormed = true) (n : Nat) : (State.resetWith c n).Inv :=
  State.inv_of_idle ⟨hc, rfl, rfl, Nat.zero_le _⟩ rfl
    ⟨rfl, rfl, ⟨rfl, rfl⟩, ⟨rfl, rfl⟩, ⟨rfl, rfl⟩, rfl, rfl, rfl, rfl, rfl⟩

/-- Settles O51: reset, an instruction and an illegal command word each keep the invariant. -/
theorem everyStepKeepsTheInvariant : Obligations.EveryStepKeepsTheInvariant := by
  intro s t h hstep
  have htake : ∀ rest, (s.take rest).Inv := fun rest => h.withHostSide (s.take rest)
  obtain rfl | ⟨rest, -, rfl⟩ | ⟨w, rest, i, -, -, rfl⟩ | ⟨v, rest, -, rfl⟩ := step_next_cases hstep
  · exact h
  · exact (State.resetWith_inv h.cfg (s.draw + 1)).withHostSide (s.resetInput rest)
  · exact (htake rest).afterInstr i
  · exact (htake rest).of_status _ _

end Sys2Proof.Machine
end

section
/-! The engine reads no byte of IBUF at or above IBUF_LEN (R48, R149). -/

namespace Sys2Proof.Machine

open Sys2Proof

/-! ### Other contents of IBUF -/

/-- The state with other contents of IBUF. -/
abbrev State.withIbuf (s : State) (m : List Host.Cell) (d : Nat) : State := { s with ibuf := m, draw := d }

/-- The same result, in the state with other contents of IBUF. -/
def StageResult.withIbuf (m : List Host.Cell) (d : Nat) : StageResult → StageResult
  | .goesOn t => .goesOn (t.withIbuf m d)
  | .ended t => .ended (t.withIbuf m d)

theorem StageResult.withIbuf_state (m : List Host.Cell) (d : Nat) (r : StageResult) :
    (r.withIbuf m d).state = r.state.withIbuf m d := by
  cases r <;> rfl

theorem StageResult.withIbuf_andThen {m : List Host.Cell} {d : Nat} {r : StageResult} {next : State → StageResult}
    (hnext : ∀ t, r = .goesOn t → next (t.withIbuf m d) = (next t).withIbuf m d) :
    (r.withIbuf m d).andThen next = (r.andThen next).withIbuf m d := by
  cases r with
  | goesOn t => exact hnext t rfl
  | ended t => rfl

/-- The other contents agree with IBUF at every valid index. -/
def State.SameBelow (s : State) (m : List Host.Cell) (d : Nat) : Prop :=
  ∀ k, k < s.ibufLen.toNat → (s.withIbuf m d).ibufByte k = s.ibufByte k

section Agreeing

variable {s : State} {m : List Host.Cell} {d : Nat} (h : s.SameBelow m d)

include h

theorem State.SameBelow.of_stageFrame {t : State} (hst : s.StageFrame t) : t.SameBelow m d := by
  obtain ⟨⟨-, hibuf, hdraw, hlen, -⟩, -⟩ := hst
  intro k hk
  rw [State.ibufByte_congr hibuf hdraw]
  exact h k (hlen ▸ hk)

theorem State.SameBelow.bufRange {a b : Nat} (hb : b ≤ s.ibufLen.toNat) :
    (s.withIbuf m d).bufRange a b = s.bufRange a b :=
  State.bufRange_congr fun i _ hi => h i (by omega)

theorem State.SameBelow.memRead2 {a : Nat} (ha : a + 1 < s.ibufLen.toNat) :
    (s.withIbuf m d).memRead2 a = s.memRead2 a := by
  rw [State.memRead2, State.memRead2, h a (by omega), h (a + 1) ha]

/-- A match takes valid bytes only (R120). -/
theorem State.SameBelow.matchAt (mk : Byte × Byte) (i : Nat) : (s.withIbuf m d).matchAt mk i = s.matchAt mk i := by
  by_cases hi : i + 2 ≤ s.ibufLen.toNat
  · rw [State.matchAt, State.matchAt, h i (by omega), h (i + 1) (by omega)]
  · simp [State.matchAt, hi]

theorem State.SameBelow.findMarker (mk : Byte × Byte) (lo : Nat) :
    (s.withIbuf m d).findMarker mk lo = s.findMarker mk lo := by
  rw [State.findMarker, State.findMarker, funext (h.matchAt mk)]

/-! ### The stages -/

theorem extractBody_withIbuf : extractBody (s.withIbuf m d) = (extractBody s).withIbuf m d := by
  have hsof : (s.withIbuf m d).searching.findMarker sofMarker 0 = s.searching.findMarker sofMarker 0 :=
    (h.of_stageFrame (t := s.searching) (by simp)).findMarker _ _
  have heof : ∀ sof lo, ((s.withIbuf m d).searching.holdSof sof).findMarker eofMarker lo =
      (s.searching.holdSof sof).findMarker eofMarker lo := fun sof lo =>
    (h.of_stageFrame (t := s.searching.holdSof sof) (by simp)).findMarker _ _
  simp only [extractBody, hsof]
  cases s.searching.findMarker sofMarker 0 with
  | none => rfl
  | some sof =>
    simp only [heof]
    cases (s.searching.holdSof sof).findMarker eofMarker (sof + 2) <;> rfl

/-- The held frame ends within IBUF_LEN, and with it the data and the CRC field (R147). -/
theorem verifyBody_withIbuf (hinv : s.Inv) (hp : s.phase = .verifying) :
    verifyBody (s.withIbuf m d) = (verifyBody s).withIbuf m d := by
  have hok : (s.setCmdStatus .ok).SameBelow m d := h.of_stageFrame (by simp)
  obtain ⟨⟨horder, hlen, hend⟩, -⟩ := hinv.frameView (.inl hp)
  have hspan : s.sofIdx.toNat + s.frameLen.toNat ≤ s.ibufLen.toNat := by omega
  by_cases hshort : s.frameLen.toNat < 6
  · simp only [verifyBody, State.setCmdStatus_frameLen, hshort, if_true]
    rfl
  · have hdata : ((s.withIbuf m d).setCmdStatus .ok).crcData = (s.setCmdStatus .ok).crcData :=
      hok.bufRange (show s.sofIdx.toNat + s.frameLen.toNat - 4 ≤ s.ibufLen.toNat by omega)
    have hfield : ((s.withIbuf m d).setCmdStatus .ok).crcField = (s.setCmdStatus .ok).crcField :=
      hok.memRead2 (show s.sofIdx.toNat + s.frameLen.toNat - 4 + 1 < s.ibufLen.toNat by omega)
    simp only [verifyBody, State.setCmdStatus_frameLen, hshort, if_false, hdata, hfield]
    split <;> rfl

/-- The held payload ends within IBUF_LEN, and a reading takes exactly the payload (R171). -/
theorem decodeBody_withIbuf (hinv : s.Inv) (hp : s.phase = .decoding) :
    decodeBody (s.withIbuf m d) = (decodeBody s).withIbuf m d := by
  obtain ⟨⟨horder, hframeLen, hend⟩, -⟩ := hinv.frameView (.inr hp)
  obtain ⟨-, -, -, hpay⟩ := hinv.payload (.inl hp)
  obtain ⟨hcap, hd⟩ | ⟨hcap, hne, hd⟩ | ⟨hcap, hlen, hd⟩ := decodeBody_cases s <;> rw [hd]
  · exact if_pos hcap
  · exact (if_neg (not_lt.2 hcap)).trans (if_pos hne)
  · have hfields : (s.withIbuf m d).payloadFields (s.vcount.toNat + s.tcount.toNat) =
        s.payloadFields (s.vcount.toNat + s.tcount.toNat) := by
      refine List.map_congr_left fun i hi => h.memRead2 ?_
      have hlt := List.mem_range.1 hi
      simp only
      omega
    refine ((if_neg (not_lt.2 hcap)).trans (if_neg (not_not_intro hlen))).trans ?_
    exact congrArg (fun l => StageResult.goesOn (((s.setCmdStatus .ok).holdReading l).withIbuf m d)) hfields

/-! ### The commands -/

theorem cmdVerify_withIbuf (hinv : s.Inv) : cmdVerify (s.withIbuf m d) = (cmdVerify s).withIbuf m d := by
  unfold cmdVerify
  split
  · next hp => rw [verifyBody_withIbuf h hinv hp, StageResult.withIbuf_state]
  · rfl

theorem cmdDecode_withIbuf (hinv : s.Inv) : cmdDecode (s.withIbuf m d) = (cmdDecode s).withIbuf m d := by
  unfold cmdDecode
  split
  · next hp => rw [decodeBody_withIbuf h hinv hp, StageResult.withIbuf_state]
  · rfl

/-- Each stage starts where the one before it has left the inputs alone and met the invariant. -/
theorem cmdCycle_withIbuf (hinv : s.Inv) : cmdCycle (s.withIbuf m d) = (cmdCycle s).withIbuf m d := by
  have hok : s.StageFrame (s.setCmdStatus .ok) := by simp
  have hextract : extractBody ((s.withIbuf m d).setCmdStatus .ok) = (extractBody (s.setCmdStatus .ok)).withIbuf m d :=
    extractBody_withIbuf (h.of_stageFrame hok)
  have hfirst := extractBody_reaches (hinv.inputsFit.of_stageFrame hok)
  have hfirstFrame := hok.trans (extractBody_stageFrame (s.setCmdStatus .ok))
  have hsecond := hfirst.andThen fun _ => verifyBody_reaches
  have hsecondFrame := hfirstFrame.andThen verifyBody_stageFrame
  unfold cmdCycle
  rw [hextract, StageResult.withIbuf_andThen fun t ht => ?_, StageResult.withIbuf_andThen fun t ht => ?_,
    StageResult.withIbuf_state]
  · rw [ht] at hsecond hsecondFrame
    exact decodeBody_withIbuf (h.of_stageFrame hsecondFrame) hsecond.1 hsecond.2
  · rw [ht] at hfirst hfirstFrame
    exact verifyBody_withIbuf (h.of_stageFrame hfirstFrame) hfirst.1 hfirst.2

/-- CRC reads its range only where the range ends within IBUF_LEN (R160). -/
theorem cmdCrc_withIbuf : cmdCrc (s.withIbuf m d) = (cmdCrc s).withIbuf m d := by
  unfold cmdCrc
  split
  · rfl
  · next hin =>
    rw [h.bufRange (not_lt.1 hin)]
    rfl

theorem afterCommand_withIbuf (hinv : s.Inv) (c : Command) :
    afterInstr c.instr (s.withIbuf m d) = (afterInstr c.instr s).withIbuf m d := by
  cases c with
  | nop => rfl
  | clear => rfl
  | extract => exact (congrArg StageResult.state (extractBody_withIbuf h)).trans (StageResult.withIbuf_state _ _ _)
  | verify => exact cmdVerify_withIbuf h hinv
  | decode => exact cmdDecode_withIbuf h hinv
  | cycle => exact cmdCycle_withIbuf h hinv
  | crc => exact cmdCrc_withIbuf h

end Agreeing

/-- Settles O54: a search takes valid bytes only, a held view ends within IBUF_LEN, and CRC checks its range. -/
theorem engineReadsValidBytesOnly : Obligations.EngineReadsValidBytesOnly := by
  intro i s t m d hinv hi hsame hexec
  obtain ⟨c, rfl⟩ := exists_command_of_mem hi
  rw [exec_eq_next] at hexec ⊢
  cases hexec
  exact congrArg _ (afterCommand_withIbuf hsame hinv c)

end Sys2Proof.Machine
end

section
/-! Which steps write CMD_STATUS, FIELD and the capacities, and what breaks R52 item 3 as written. -/

namespace Sys2Proof.Machine

open Sys2Proof

/-! ### CMD_STATUS and the configuration -/

theorem State.invalidate_cmdStatus (s : State) : s.invalidate.cmdStatus = s.cmdStatus := by
  obtain ⟨-, h⟩ | ⟨-, h⟩ := s.invalidate_cases <;> rw [h]
  rfl

theorem State.invalidate_cfg (s : State) : s.invalidate.cfg = s.cfg := by
  obtain ⟨-, h⟩ | ⟨-, h⟩ := s.invalidate_cases <;> rw [h]
  rfl

/-- An instruction that changes CMD_STATUS is a command or a write of CMD (R23). -/
theorem afterInstr_cmdStatus {i : Instr} {s : State} (h : (afterInstr i s).cmdStatus ≠ s.cmdStatus) :
    (∃ c : Command, i = c.instr) ∨ ∃ v, i = .regWrite 0x00#8 v := by
  obtain ⟨c, hc | hc, -⟩ | ⟨v, hv, -⟩ | ⟨m, n, hi, -⟩ | hi := afterInstr_cases i s
  · exact .inl ⟨c, hc⟩
  · exact .inr ⟨c.word, hc⟩
  · exact .inr ⟨v, hv⟩
  · rw [hi, State.invalidate_cmdStatus] at h
    exact absurd rfl h
  · rw [hi] at h
    exact absurd rfl h

/-- A command comes off the port as a command word only (R100). -/
theorem exists_cmd16_of_decode {w : HostWord} {c : Command} (h : decode w = .ok c.instr) : ∃ v, w = .cmd16 v := by
  cases w with
  | cmd16 v => exact ⟨v, rfl⟩
  | ht32 w => exact absurd h (decode_ht32_ne_command w c)

/-- Settles O19: of the instructions, only a command or a write of CMD changes CMD_STATUS. -/
theorem cmdStatusIsWrittenByCmdOnly : Obligations.CmdStatusIsWrittenByCmdOnly := by
  intro s t hstep hne
  obtain rfl | ⟨rest, hp, -⟩ | ⟨w, rest, i, hp, hd, rfl⟩ | ⟨v, rest, hp, -⟩ := step_next_cases hstep
  · exact absurd rfl hne
  · exact .inl ⟨rest, hp⟩
  · obtain ⟨c, rfl⟩ | ⟨v, rfl⟩ := afterInstr_cmdStatus (s := s.take rest) hne
    · obtain ⟨v, rfl⟩ := exists_cmd16_of_decode hd
      exact .inr (.inl ⟨v, rest, hp⟩)
    · exact .inr (.inr ⟨w, v, rest, hp, hd⟩)
  · exact .inr (.inl ⟨v, rest, hp⟩)

theorem afterInstr_cfg (i : Instr) (s : State) : (afterInstr i s).cfg = s.cfg := by
  obtain ⟨c, -, hi⟩ | ⟨v, -, hi⟩ | ⟨m, n, hi, -⟩ | hi := afterInstr_cases i s <;> rw [hi]
  · exact (afterInstr_sameInputs c s).1
  · rfl
  · exact State.invalidate_cfg _
  · rfl

/-- Settles O50: CAP_BUF and CAP_FIELD are read off the configuration, which no step writes. -/
theorem capacitiesAreConstant : Obligations.CapacitiesAreConstant := by
  have hread : ∀ (s : State) (n : RegName), exec (.regRead n.number) s = .next { s with reply := .reg (s.readNamed n) } :=
    fun s n => by rw [exec_eq_next, afterInstr, State.readReg_number]
  refine ⟨fun s => ⟨hread s .capBuf, hread s .capField⟩, fun s t hstep => ?_⟩
  obtain rfl | ⟨rest, -, rfl⟩ | ⟨w, rest, i, -, -, rfl⟩ | ⟨v, rest, -, rfl⟩ := step_next_cases hstep
  · rfl
  · rfl
  · exact afterInstr_cfg i (s.take rest)
  · rfl

/-! ### FIELD -/

/-- Settles O15: `State.clearResults` is that update. -/
theorem clearResultsClearsTheResultGroup : Obligations.ClearResultsClearsTheResultGroup :=
  fun _ => rfl

/-- Every FIELD entry is 0. -/
abbrev State.FieldCleared (t : State) : Prop := t.field = List.replicate t.cfg.fieldCap 0#16

theorem extractBody_fieldCleared (s : State) : (extractBody s).state.FieldCleared := by
  obtain ⟨-, h⟩ | ⟨sof, -, -, h⟩ | ⟨sof, eof, -, -, h⟩ := extractBody_cases s <;> rw [h] <;> rfl

/-- VERIFY clears FIELD where it fails, and else leaves it (R145, R224). -/
theorem verifyBody_field (s : State) :
    (∃ t, verifyBody s = .ended t ∧ t.FieldCleared) ∨ ∃ t, verifyBody s = .goesOn t ∧ t.field = s.field := by
  obtain ⟨-, h⟩ | ⟨-, -, h⟩ | ⟨-, -, h⟩ := verifyBody_cases s
  · exact .inl ⟨_, h, rfl⟩
  · exact .inl ⟨_, h, rfl⟩
  · exact .inr ⟨_, h, rfl⟩

/-- DECODE clears FIELD where it fails, and else ends in READY (R170, R224). -/
theorem decodeBody_field (s : State) : (decodeBody s).state.FieldCleared ∨ (decodeBody s).state.phase = .ready := by
  obtain ⟨-, h⟩ | ⟨-, -, h⟩ | ⟨-, -, h⟩ := decodeBody_cases s <;> rw [h]
  · exact .inl rfl
  · exact .inl rfl
  · exact .inr rfl

theorem cmdVerify_field (s : State) : (cmdVerify s).field = s.field ∨ (cmdVerify s).FieldCleared := by
  unfold cmdVerify
  split
  · obtain ⟨t, h, ht⟩ | ⟨t, h, ht⟩ := verifyBody_field s <;> rw [h]
    · exact .inr ht
    · exact .inl ht
  · exact .inl rfl

theorem cmdDecode_field (s : State) :
    (cmdDecode s).field = s.field ∨ (cmdDecode s).FieldCleared ∨ (cmdDecode s).phase = .ready := by
  unfold cmdDecode
  split
  · exact .inr (decodeBody_field s)
  · exact .inl rfl

theorem cmdCycle_field (s : State) : (cmdCycle s).FieldCleared ∨ (cmdCycle s).phase = .ready := by
  obtain ⟨t, hx, h⟩ | ⟨t, u, -, hv, h⟩ | ⟨t, u, -, -, h⟩ := cmdCycle_cases s <;> rw [h]
  · exact .inl (by simpa [hx] using extractBody_fieldCleared s)
  · obtain ⟨u', hv', hu⟩ | ⟨u', hv', -⟩ := verifyBody_field t <;> rw [hv] at hv' <;> cases hv'
    exact .inl hu
  · exact decodeBody_field u

/-- What a command does to FIELD: it leaves it, clears it, or is a DECODE or CYCLE that ends in READY (R47). -/
theorem afterCommand_field (c : Command) (s : State) :
    (afterInstr c.instr s).field = s.field ∨ (afterInstr c.instr s).FieldCleared ∨
    ((afterInstr c.instr s).phase = .ready ∧ (c = .decode ∨ c = .cycle)) := by
  cases c with
  | nop => exact .inl rfl
  | clear => exact .inr (.inl rfl)
  | extract => exact .inr (.inl (extractBody_fieldCleared s))
  | verify => exact (cmdVerify_field s).imp id .inl
  | decode => exact (cmdDecode_field s).imp id (Or.imp id fun h => ⟨h, .inl rfl⟩)
  | cycle => exact .inr ((cmdCycle_field s).imp id fun h => ⟨h, .inr rfl⟩)
  | crc => exact .inl (by obtain ⟨-, h⟩ | ⟨-, h⟩ := cmdCrc_cases s <;> simp [afterInstr, Command.instr, h])

theorem State.invalidate_field (s : State) : s.invalidate.field = s.field ∨ s.invalidate.FieldCleared := by
  obtain ⟨-, h⟩ | ⟨-, h⟩ := s.invalidate_cases <;> rw [h]
  · exact .inr rfl
  · exact .inl rfl

/-- The instructions that can fill FIELD. -/
theorem mem_of_runsCommand {i : Instr} {c : Command} (hi : RunsCommand i c) (hc : c = .decode ∨ c = .cycle) :
    i ∈ [Instr.decode, .cycle, .regWrite 0x00#8 0x0004#16, .regWrite 0x00#8 0x0005#16] := by
  obtain rfl | rfl := hc <;> obtain rfl | rfl := hi <;> decide

/-- Settles O43: a command fills FIELD in READY or clears it, an invalidation clears it, no other write touches it. -/
theorem fieldIsWrittenByDecodeOnly : Obligations.FieldIsWrittenByDecodeOnly := by
  intro s t hstep hne
  obtain rfl | ⟨rest, -, rfl⟩ | ⟨w, rest, i, hp, hd, rfl⟩ | ⟨v, rest, -, rfl⟩ := step_next_cases hstep
  · exact absurd rfl hne
  · exact .inl rfl
  · obtain ⟨c, hc, hi⟩ | ⟨v, -, hi⟩ | ⟨m, n, hi, -⟩ | hi := afterInstr_cases i (s.take rest) <;> rw [hi] at hne ⊢
    · obtain hf | hf | ⟨hready, hfill⟩ := afterCommand_field c (s.take rest)
      · exact absurd hf hne
      · exact .inl hf
      · exact .inr ⟨hready, w, rest, i, hp, hd, mem_of_runsCommand hc hfill⟩
    · exact absurd rfl hne
    · exact .inl ((State.invalidate_field _).resolve_left hne)
    · exact absurd rfl hne
  · exact absurd rfl hne

/-! ### R52 item 3 as written -/

/-- READY with the empty reading of the frame `1A 85 FF FF 22 CE`, as CYCLE leaves it after reset, and on the port the
write of 0 to IBUF_LEN. -/
def emptyReadingCutShort : State :=
  { State.reset with
    ibuf := [(0, 0x1A#8), (1, 0x85#8), (2, 0xFF#8), (3, 0xFF#8), (4, 0x22#8), (5, 0xCE#8)]
    ibufLen := 6#16, phase := .ready, eofIdx := 4#16, frameLen := 6#16
    crcRetrieved := 0xFFFF#16, crcComputed := 0xFFFF#16, payloadOff := 5#16, rdVexp := 3#2, rdTexp := 1#2
    port := [.request (encode (.regWrite RegName.ibufLen.number 0#16))] }

theorem emptyReadingCutShort_inv : emptyReadingCutShort.Inv := by
  refine State.inv_of_ready ⟨rfl, rfl, rfl, by decide⟩ rfl rfl ?_ ?_ ?_ rfl fun v hv =>
    List.eq_of_mem_replicate (List.mem_of_mem_drop hv)
  all_goals decide

/-- Refutes O52: a write of 0 to IBUF_LEN in READY leaves EOF_IDX + 2 = 6 above IBUF_LEN, and R74 drops no view there
(log entry 6). -/
theorem not_frameItemAsWrittenIsKept : ¬ Obligations.FrameItemAsWrittenIsKept := by
  intro h
  have hitem : emptyReadingCutShort.FrameItemAsWritten := ⟨by decide, by decide⟩
  have hnext : step emptyReadingCutShort = .next { emptyReadingCutShort with ibufLen := 0#16, port := [] } := rfl
  have hwithin := (h _ _ emptyReadingCutShort_inv hitem hnext).1 (.inr (.inr rfl))
  exact absurd hwithin (by decide)

end Sys2Proof.Machine
end

section
/-! What a step runs, what it takes off the port, and whose state it changes (R70, R78, R87). -/

namespace Sys2Proof.Machine

open Sys2Proof

/-! ### The next instruction -/

/-- Settles O5: the branch of `step` for a word that decodes. -/
theorem stepRunsTheDecodedInstruction : Obligations.StepRunsTheDecodedInstruction := by
  intro s w rest i hport hdecode
  simp only [step, hport, hdecode]
  rfl

theorem decode_of_decodeTableWord {nbits w : Nat} {i : Instr} (h : decodeTableWord nbits w = some i) :
    decode (tableWord nbits w) = .ok i := by
  unfold decodeTableWord at h
  split at h
  · next j hj =>
    cases h
    exact hj
  · cases h

/-- Settles O6: the table row's word stands at the head of the port, so O5 gives the step. -/
theorem fetchWordIsTheNextInstruction : Obligations.FetchWordIsTheNextInstruction := by
  intro s nbits w i h
  exact stepRunsTheDecodedInstruction (s.withFetchWord nbits w) _ s.port i rfl (decode_of_decodeTableWord h)

/-! ### The port -/

theorem State.SameInputs.port_eq {s t : State} (h : s.SameInputs t) : t.port = s.port := by
  obtain ⟨-, -, -, -, -, -, -, -, -, -, -, -, hport, -⟩ := h
  exact hport

theorem State.invalidate_port (s : State) : s.invalidate.port = s.port := by
  obtain ⟨-, h⟩ | ⟨-, h⟩ := s.invalidate_cases <;> rw [h]
  rfl

theorem runCommand_port (v : Word) (s : State) : (runCommand v s).port = s.port := by
  cases h : decodeCommand v with
  | ok c => rw [runCommand_of_ok h, (afterInstr_sameInputs c s).port_eq]
  | rejected r => rw [runCommand_of_rejected h, State.raiseCmdError_port]

theorem State.writeNamed_port (s : State) (v : Word) (n : RegName) : (s.writeNamed v n).port = s.port := by
  cases n
  case cmd => exact runCommand_port v s
  case ibufLen => exact State.invalidate_port _
  all_goals rfl

/-- An instruction does not look at what the outside world does next, nor change it. -/
theorem afterInstr_port (i : Instr) (s : State) : (afterInstr i s).port = s.port := by
  have hcommand : ∀ c : Command, (afterInstr c.instr s).port = s.port :=
    fun c => (afterInstr_sameInputs c s).port_eq
  cases i with
  | nop => exact hcommand .nop
  | clear => exact hcommand .clear
  | extract => exact hcommand .extract
  | verify => exact hcommand .verify
  | decode => exact hcommand .decode
  | cycle => exact hcommand .cycle
  | crc => exact hcommand .crc
  | regRead r => rfl
  | bufRead a => rfl
  | regWrite r v =>
    simp only [afterInstr, State.writeReg]
    split
    · exact s.writeNamed_port v _
    · rfl
  | bufWrite a b =>
    simp only [afterInstr, State.writeBuf]
    split
    · exact State.invalidate_port _
    · rfl

/-! ### EXTRACTING is held inside a command only -/

theorem extractBody_atRest (s : State) : (extractBody s).state.phase ≠ .extracting := by
  obtain ⟨-, h⟩ | ⟨sof, -, -, h⟩ | ⟨sof, eof, -, -, h⟩ := extractBody_cases s <;> simp [h]

theorem verifyBody_atRest (s : State) : (verifyBody s).state.phase ≠ .extracting := by
  obtain ⟨-, h⟩ | ⟨-, -, h⟩ | ⟨-, -, h⟩ := verifyBody_cases s <;> simp [h]

theorem decodeBody_atRest (s : State) : (decodeBody s).state.phase ≠ .extracting := by
  obtain ⟨-, h⟩ | ⟨-, -, h⟩ | ⟨-, -, h⟩ := decodeBody_cases s <;> simp [h]

theorem cmdCycle_atRest (s : State) : (cmdCycle s).phase ≠ .extracting := by
  obtain ⟨t, hx, h⟩ | ⟨t, u, -, hv, h⟩ | ⟨t, u, -, -, h⟩ := cmdCycle_cases s <;> rw [h]
  · simpa [hx] using extractBody_atRest s
  · simpa [hv] using verifyBody_atRest t
  · exact decodeBody_atRest u

/-- A command that starts at rest ends at rest (R78). -/
theorem afterCommand_atRest {s : State} (h : s.phase ≠ .extracting) (c : Command) :
    (afterInstr c.instr s).phase ≠ .extracting := by
  cases c with
  | nop => exact h
  | clear => simp [Command.instr, afterInstr, cmdClear]
  | extract => exact extractBody_atRest s
  | verify =>
    change (cmdVerify s).phase ≠ _
    unfold cmdVerify
    split
    · exact verifyBody_atRest s
    · exact h
  | decode =>
    change (cmdDecode s).phase ≠ _
    unfold cmdDecode
    split
    · exact decodeBody_atRest s
    · exact h
  | cycle => exact cmdCycle_atRest s
  | crc =>
    change (cmdCrc s).phase ≠ _
    obtain ⟨-, hc⟩ | ⟨-, hc⟩ := cmdCrc_cases s <;> rw [hc] <;> exact h

theorem State.invalidate_atRest {s : State} (h : s.phase ≠ .extracting) : s.invalidate.phase ≠ .extracting := by
  obtain ⟨-, hi⟩ | ⟨-, hi⟩ := s.invalidate_cases <;> rw [hi]
  · simp
  · exact h

/-- An instruction that starts at rest ends at rest (R78). -/
theorem afterInstr_atRest {s : State} (h : s.phase ≠ .extracting) (i : Instr) :
    (afterInstr i s).phase ≠ .extracting := by
  obtain ⟨c, -, hi⟩ | ⟨v, -, hi⟩ | ⟨m, n, hi, -⟩ | hi := afterInstr_cases i s <;> rw [hi]
  · exact afterCommand_atRest h c
  · exact h
  · exact State.invalidate_atRest (s := s.loadIbuf m n) h
  · exact h

/-- Settles O11: an instruction leaves the port behind its own event alone, and starts and ends at rest. -/
theorem stepIsAtomic : Obligations.StepIsAtomic := by
  intro s t hrest hstep
  obtain ⟨hp, hs⟩ | ⟨rest, hp, hs⟩ | ⟨w, rest, -, hs⟩ | ⟨w, rest, i, hp, -, hs⟩ | ⟨v, rest, r, hp, -, hs⟩ |
    ⟨w, rest, r, -, -, hs⟩ := step_cases s
  all_goals rw [hs] at hstep; cases hstep
  · exact ⟨by rw [hp]; rfl, hrest⟩
  · exact ⟨by rw [hp]; rfl, Phase.noConfusion⟩
  · exact ⟨by rw [afterInstr_port, hp]; rfl, afterInstr_atRest (s := s.take rest) hrest i⟩
  · exact ⟨by rw [hp]; rfl, hrest⟩

/-! ### Several instances -/

theorem stepInstance_eq_next {sys sys' : System} {k : Fin sys.length} (h : stepInstance sys k = .next sys') :
    ∃ t, step (sys.get k) = .next t ∧ sys' = sys.set k t := by
  unfold stepInstance at h
  split at h
  · next t ht =>
    cases h
    exact ⟨t, ht, rfl⟩
  · cases h
  · cases h

/-- Settles O58: a step of the k-th block replaces entry k of the list and no other. -/
theorem instancesShareNothing : Obligations.InstancesShareNothing := by
  intro sys sys' k h
  obtain ⟨t, -, rfl⟩ := stepInstance_eq_next h
  exact ⟨List.length_set, fun j hj => List.getElem?_set_ne (Ne.symm hj)⟩

end Sys2Proof.Machine
end

section
/-! The four host transactions: what each reads, what each writes, and what a second one adds (R71 to R74, R79). -/

namespace Sys2Proof.Machine

open Sys2Proof

/-! ### RegRead -/

theorem exec_regRead_number (s : State) (n : RegName) :
    exec (.regRead n.number) s = .next { s with reply := .reg (s.readNamed n) } := by
  rw [exec_eq_next, afterInstr, State.readReg_number]

theorem exec_regRead_unnamed {r : RegNum} (hr : 0x19 ≤ r.toNat) (s : State) :
    exec (.regRead r) s =
      .next { s with reply := .reg (if 0x40 ≤ r.toNat then s.fieldAt (r.toNat - 0x40) else 0#16) } := by
  rw [exec_eq_next, afterInstr, State.readReg, RegName.ofNumber_eq_none hr]

/-- TEXP in [3:2] and VEXP in [1:0], as a number (R31, R41). -/
theorem scaleWord_eq_ofNat : ∀ texp vexp : BitVec 2,
    scaleWord texp vexp = BitVec.ofNat 16 (4 * texp.toNat + vexp.toNat) := by
  decide

/-- Settles O44: a number below 0x19 names its register; from 0x40 on it is an entry of FIELD, in between reserved. -/
theorem regReadReturnsTheRegister : Obligations.RegReadReturnsTheRegister := by
  intro s reads
  have hnamed : ∀ n : RegName, reads n.number (s.readNamed n) := exec_regRead_number s
  have hscale : reads 0x09#8 (BitVec.ofNat 16 (4 * s.texp.toNat + s.vexp.toNat)) :=
    scaleWord_eq_ofNat s.texp s.vexp ▸ hnamed .scale
  have hrdScale : reads 0x13#8 (BitVec.ofNat 16 (4 * s.rdTexp.toNat + s.rdVexp.toNat)) :=
    scaleWord_eq_ofNat s.rdTexp s.rdVexp ▸ hnamed .rdScale
  refine ⟨hnamed .cmd, hnamed .cmdStatus, hnamed .state, hnamed .err, hnamed .ibufLen, hnamed .vcount,
    hnamed .tcount, hnamed .hdrEnd, hnamed .tailTrim, hscale, hnamed .sofIdx, hnamed .eofIdx, hnamed .frameLen,
    hnamed .crcRetrieved, hnamed .crcComputed, hnamed .payloadOff, hnamed .payloadLen, hnamed .rdVcount,
    hnamed .rdTcount, hrdScale, hnamed .crcArgStart, hnamed .crcArgLen, hnamed .crcResult, hnamed .capBuf,
    hnamed .capField, ?_, ?_, ?_⟩
  · intro r hwindow hcap
    change exec _ _ = _
    rw [exec_regRead_unnamed (by omega), if_pos hwindow, State.fieldAt, if_pos hcap]
  · intro r hwindow hcap
    change exec _ _ = _
    rw [exec_regRead_unnamed (by omega), if_pos hwindow, State.fieldAt, if_neg (not_lt.2 hcap)]
  · intro r hlo hhi
    change exec _ _ = _
    rw [exec_regRead_unnamed hlo, if_neg (by omega)]

/-! ### RegWrite -/

theorem exec_regWrite_number (s : State) (n : RegName) (v : Word) :
    exec (.regWrite n.number v) s = .next (s.writeNamed v n) := by
  rw [exec_eq_next, afterInstr, State.writeReg_number]

theorem exec_regWrite_unnamed {r : RegNum} (hr : 0x19 ≤ r.toNat) (s : State) (v : Word) :
    exec (.regWrite r v) s = .next s := by
  rw [exec_eq_next, afterInstr, State.writeReg, RegName.ofNumber_eq_none hr]

theorem State.writeNamed_readOnly (s : State) (v : Word) {n : RegName} (h : n.access = .readOnly) :
    s.writeNamed v n = s := by
  cases n
  case cmd | ibufLen | vcount | tcount | hdrEnd | tailTrim | scale | crcArgStart | crcArgLen => cases h
  all_goals rfl

theorem decodeCommand_word (c : Command) : decodeCommand c.word = .ok c := by
  cases c <;> decide

/-- A word with RSV ≠ 0 or a reserved OP is no command's word (R103). -/
theorem decodeCommand_rejected {v : Word} (h : v.extractLsb' 4 12 ≠ 0#12 ∨ 0x7 ≤ (v.extractLsb' 0 4).toNat) :
    ∃ r, decodeCommand v = .rejected r := by
  cases hd : decodeCommand v with
  | rejected r => exact ⟨r, rfl⟩
  | ok c =>
    obtain rfl := eq_word_of_decodeCommand hd
    refine absurd h ?_
    cases c <;> decide

/-- Settles O45: the register that the number names gives the effect; from 0x19 on there is none. -/
theorem regWriteEffect : Obligations.RegWriteEffect := by
  intro s v
  have hnamed : ∀ n : RegName, exec (.regWrite n.number v) s = .next (s.writeNamed v n) :=
    fun n => exec_regWrite_number s n v
  refine ⟨fun c => ?_, fun hbad => ?_, ?_, hnamed .vcount, hnamed .tcount, hnamed .hdrEnd, hnamed .tailTrim,
    hnamed .scale, hnamed .crcArgStart, hnamed .crcArgLen, fun r hr => ?_, fun r hr => exec_regWrite_unnamed hr s v⟩
  · rw [exec_eq_next c.instr, ← runCommand_of_ok (decodeCommand_word c)]
    exact exec_regWrite_number s .cmd c.word
  · obtain ⟨r, hr⟩ := decodeCommand_rejected hbad
    exact (hnamed .cmd).trans (congrArg _ (runCommand_of_rejected hr s))
  · rintro t rfl
    exact hnamed .ibufLen
  · have hreadOnly : ∃ n ∈ RegName.all, n.number = r ∧ n.access = .readOnly := by
      revert r
      decide
    obtain ⟨n, -, rfl, hn⟩ := hreadOnly
    rw [hnamed n, State.writeNamed_readOnly s v hn]

/-! ### Writes of IBUF and IBUF_LEN -/

theorem afterInstr_bufWrite_below {s : State} {a : BufIdx} (h : a.toNat < s.cfg.bufCap) (b : Byte) :
    afterInstr (.bufWrite a b) s = (s.loadIbuf (Memory.set s.ibuf a.toNat b) s.ibufLen).invalidate := by
  rw [afterInstr, State.writeBuf, if_pos h]
  rfl

theorem afterInstr_bufWrite_above {s : State} {a : BufIdx} (h : s.cfg.bufCap ≤ a.toNat) (b : Byte) :
    afterInstr (.bufWrite a b) s = s := by
  rw [afterInstr, State.writeBuf, if_neg (not_lt.2 h)]

theorem afterInstr_ibufLen (s : State) (v : Word) :
    afterInstr (.regWrite 0x04#8 v) s = (s.loadIbuf s.ibuf (index16 (min v.toNat s.cfg.bufCap))).invalidate :=
  rfl

/-- A write while a view is held drops the view (R74). -/
theorem State.loadIbuf_invalidate_held {s : State} (h : s.phase = .verifying ∨ s.phase = .decoding) (m : Memory)
    (n : Word) :
    (s.loadIbuf m n).invalidate = { s.clearResults with phase := .idle, ibuf := m, ibufLen := n } := by
  rw [State.invalidate, if_pos (show (s.loadIbuf m n).phase = _ ∨ (s.loadIbuf m n).phase = _ from h)]
  rfl

/-- A write while no view is held has no further effect (R74). -/
theorem State.loadIbuf_invalidate_unheld {s : State} (h : ¬ (s.phase = .verifying ∨ s.phase = .decoding))
    (m : Memory) (n : Word) : (s.loadIbuf m n).invalidate = s.loadIbuf m n :=
  if_neg h

theorem State.invalidate_ibuf (s : State) : s.invalidate.ibuf = s.ibuf := by
  obtain ⟨-, h⟩ | ⟨-, h⟩ := s.invalidate_cases <;> rw [h]
  rfl

theorem State.invalidate_ibufLen (s : State) : s.invalidate.ibufLen = s.ibufLen := by
  obtain ⟨-, h⟩ | ⟨-, h⟩ := s.invalidate_cases <;> rw [h]
  rfl

theorem State.invalidate_ibufByte (s : State) (k : Nat) : s.invalidate.ibufByte k = s.ibufByte k := by
  obtain ⟨-, h⟩ | ⟨-, h⟩ := s.invalidate_cases <;> rw [h]
  rfl

theorem afterInstr_bufWrite_ibufByte {s : State} {a : BufIdx} (h : a.toNat < s.cfg.bufCap) (b : Byte) (k : Nat) :
    (afterInstr (.bufWrite a b) s).ibufByte k = if k = a.toNat then b else s.ibufByte k := by
  rw [afterInstr_bufWrite_below h, State.invalidate_ibufByte]
  exact s.ibufByte_set a.toNat k b

/-- The view that a first write drops is no longer there for a second one. -/
theorem State.loadIbuf_invalidate_twice (s : State) (m : Memory) (n : Word) :
    ((s.loadIbuf m n).invalidate.loadIbuf m n).invalidate = (s.loadIbuf m n).invalidate := by
  by_cases h : s.phase = .verifying ∨ s.phase = .decoding
  · rw [State.loadIbuf_invalidate_held h]
    rfl
  · rw [State.loadIbuf_invalidate_unheld h]
    exact State.loadIbuf_invalidate_unheld h m n

/-- Settles O46: a write is a write of the list of IBUF and the invalidation; a command keeps both that list and its
free contents. -/
theorem bufTransactionEffect : Obligations.BufTransactionEffect := by
  intro s a b
  refine ⟨fun hlt => ⟨?_, _, exec_eq_next _ s, afterInstr_bufWrite_ibufByte hlt b, fun hheld => ?_, fun hfree => ?_⟩,
    fun hge => ⟨?_, ?_⟩, fun c => ⟨_, exec_eq_next _ s, (afterInstr_sameInputs c s).ibufByte_eq⟩⟩
  · rw [exec_eq_next, afterInstr, State.readBuf, if_pos hlt]
  · rw [afterInstr_bufWrite_below hlt, State.loadIbuf_invalidate_held hheld]
    rfl
  · rw [afterInstr_bufWrite_below hlt, State.loadIbuf_invalidate_unheld hfree]
    rfl
  · rw [exec_eq_next, afterInstr, State.readBuf, if_neg (not_lt.2 hge)]
  · rw [exec_eq_next, afterInstr_bufWrite_above hge]

/-- The two writes that R74 is about, as what they store. -/
theorem afterInstr_eq_loadIbuf {s : State} {i : Instr}
    (h : (∃ (a : BufIdx) (b : Byte), a.toNat < s.cfg.bufCap ∧ i = .bufWrite a b) ∨ ∃ v, i = .regWrite 0x04#8 v) :
    ∃ m n, afterInstr i s = (s.loadIbuf m n).invalidate := by
  obtain ⟨a, b, ha, rfl⟩ | ⟨v, rfl⟩ := h
  · exact ⟨_, _, afterInstr_bufWrite_below ha b⟩
  · exact ⟨_, _, afterInstr_ibufLen s v⟩

/-- Settles O47: the invalidation leads to IDLE, where VERIFY and DECODE are out of order. -/
theorem ibufWriteDropsAHeldView : Obligations.IbufWriteDropsAHeldView := by
  intro s i hi
  obtain ⟨m, n, hload⟩ := afterInstr_eq_loadIbuf hi
  refine ⟨_, exec_eq_next i s, fun hheld => ?_, fun hfree => ?_, ?_, ?_⟩
  · rw [hload, State.loadIbuf_invalidate_held hheld]
    exact ⟨rfl, s.clearResults_resultsCleared, rfl, rfl⟩
  · rw [hload, State.loadIbuf_invalidate_unheld hfree]
    rfl
  · rintro a b rfl
    obtain ⟨a', b', ha, hab⟩ | ⟨v, hv⟩ := hi
    · cases hab
      refine ⟨?_, afterInstr_bufWrite_ibufByte ha b⟩
      rw [afterInstr_bufWrite_below ha, State.invalidate_ibufLen]
      rfl
    · cases hv
  · rintro v rfl
    rw [afterInstr_ibufLen, State.invalidate_ibuf, State.invalidate_ibufLen]
    exact ⟨rfl, rfl⟩

/-! ### A transaction repeated -/

theorem afterInstr_ibufLen_twice (s : State) (v : Word) :
    afterInstr (.regWrite 0x04#8 v) (afterInstr (.regWrite 0x04#8 v) s) = afterInstr (.regWrite 0x04#8 v) s := by
  rw [afterInstr_ibufLen (afterInstr _ s), afterInstr_cfg, afterInstr_ibufLen, State.invalidate_ibuf]
  exact s.loadIbuf_invalidate_twice _ _

theorem State.writeNamed_twice (s : State) (v : Word) {n : RegName} (h : n ≠ .cmd) :
    (s.writeNamed v n).writeNamed v n = s.writeNamed v n := by
  cases n
  case cmd => exact absurd rfl h
  case ibufLen => exact afterInstr_ibufLen_twice s v
  all_goals rfl

theorem afterInstr_regWrite_twice (s : State) {r : RegNum} (hr : r ≠ 0x00#8) (v : Word) :
    afterInstr (.regWrite r v) (afterInstr (.regWrite r v) s) = afterInstr (.regWrite r v) s := by
  simp only [afterInstr, State.writeReg]
  split
  · next n hn =>
    refine s.writeNamed_twice v ?_
    rintro rfl
    exact hr (RegName.number_of_ofNumber hn).symm
  · rfl

theorem afterInstr_bufWrite_twice (s : State) (a : BufIdx) (b : Byte) :
    afterInstr (.bufWrite a b) (afterInstr (.bufWrite a b) s) = afterInstr (.bufWrite a b) s := by
  by_cases h : a.toNat < s.cfg.bufCap
  · have hafter : a.toNat < (afterInstr (.bufWrite a b) s).cfg.bufCap := by rwa [afterInstr_cfg]
    have hibuf : (s.loadIbuf (Memory.set s.ibuf a.toNat b) s.ibufLen).ibuf = Memory.set s.ibuf a.toNat b := rfl
    rw [afterInstr_bufWrite_below hafter, afterInstr_bufWrite_below h, State.invalidate_ibuf,
      State.invalidate_ibufLen, hibuf, Memory.set_set_same]
    exact s.loadIbuf_invalidate_twice _ _
  · rw [afterInstr_bufWrite_above (not_lt.1 h), afterInstr_bufWrite_above (not_lt.1 h)]

/-- The frame `1A 85 22 CE`, four bytes long, as EXTRACT holds it after reset. -/
def tooShortFrameHeld : State :=
  { State.reset with
    ibuf := [(0, 0x1A#8), (1, 0x85#8), (2, 0x22#8), (3, 0xCE#8)]
    ibufLen := 4#16, phase := .verifying, eofIdx := 2#16, frameLen := 4#16 }

/-- Settles O48: a read leaves what it reads from, a second write finds what the first stored, and a VERIFY that fails
leaves a state in which VERIFY is rejected. -/
theorem readsAndWritesAreIdempotent : Obligations.ReadsAndWritesAreIdempotent := by
  refine ⟨?_, ?_, ?_⟩
  · rintro s i (⟨r, rfl⟩ | ⟨a, rfl⟩)
    · exact ⟨.reg (s.readReg r), rfl, rfl⟩
    · exact ⟨.byte (s.readBuf a), rfl, rfl⟩
  · rintro s i (⟨r, v, hr, rfl⟩ | ⟨a, b, rfl⟩)
    · exact ⟨_, exec_eq_next _ s, by rw [exec_eq_next, afterInstr_regWrite_twice s hr]⟩
    · exact ⟨_, exec_eq_next _ s, by rw [exec_eq_next, afterInstr_bufWrite_twice]⟩
  · have hfails : exec (.regWrite 0x00#8 Command.verify.word) tooShortFrameHeld =
        .next { tooShortFrameHeld with phase := .failed, err := .frameTooShort } := rfl
    refine ⟨_, _, _, _, hfails, rfl, fun h => ?_⟩
    exact absurd (congrArg State.cmdStatus h) (by decide)

/-! ### A write read back -/

/-- Bits [3:2] and [1:0] of a value, joined as SCALE reads, are its low 4 bits (R31). -/
theorem scaleWord_extractLsb' (v : Word) : scaleWord (v.extractLsb' 2 2) (v.extractLsb' 0 2) = v &&& 0x000F#16 := by
  have hmask : v.toNat &&& (0x000F#16).toNat = v.toNat % 16 := Nat.and_two_pow_sub_one_eq_mod v.toNat 4
  apply BitVec.eq_of_toNat_eq
  rw [scaleWord_eq_ofNat, BitVec.toNat_ofNat, BitVec.toNat_and, hmask]
  simp only [BitVec.extractLsb'_toNat, Nat.shiftRight_eq_div_pow]
  omega

/-- Settles O49: the write stores the value, cut to SCALE's fields or clamped to BUF_CAP, and the read finds it. -/
theorem writeThenReadBack : Obligations.WriteThenReadBack := by
  intro s v hcfg
  refine ⟨fun r hr => ⟨_, exec_eq_next _ s, ?_⟩, ⟨_, exec_eq_next _ s, ?_⟩, 
    ⟨_, _, _, exec_eq_next _ s, exec_regRead_number _ .ibufLen, rfl, ?_⟩, fun a b ha => ⟨_, exec_eq_next _ s, ?_⟩⟩
  · simp only [List.mem_cons, List.not_mem_nil, or_false] at hr
    obtain rfl | rfl | rfl | rfl | rfl | rfl := hr <;> rfl
  · rw [← scaleWord_extractLsb']
    rfl
  · have hcap : s.cfg.bufCap < 65536 := (State.resetWith_inv hcfg 0).inputsFit.bufCap_lt
    rw [State.readNamed, afterInstr_ibufLen, State.invalidate_ibufLen]
    exact index16_toNat (by omega)
  · rw [exec_eq_next, afterInstr, State.readBuf, afterInstr_cfg, if_pos ha, afterInstr_bufWrite_ibufByte ha,
      if_pos rfl]

end Sys2Proof.Machine
end

section
/-! The codec both ways: decoding inverts encoding, a word has one meaning, and the rows of the opcode table are the
words that decode (R100, R101, R106). -/

namespace Sys2Proof.Machine

open Sys2Proof

/-! ### Decoding an encoded instruction -/

theorem decode_command_word (c : Command) : decode (.cmd16 c.word) = .ok c.instr := by
  simp only [decode, decodeCommand_word]

theorem decode_encode_regRead (r : RegNum) : decode (encode (.regRead r)) = .ok (.regRead r) := by
  obtain ⟨hk, hz, hr, hv⟩ := ht32_reg_fields 0#2 r 0#16
  rw [encode, decode, decodeTransaction, hk, hz, hr, hv]
  rfl

theorem decode_encode_regWrite (r : RegNum) (v : Word) : decode (encode (.regWrite r v)) = .ok (.regWrite r v) := by
  obtain ⟨hk, hz, hr, hv⟩ := ht32_reg_fields 1#2 r v
  rw [encode, decode, decodeTransaction, hk, hz, hr, hv]
  rfl

theorem decode_encode_bufRead (a : BufIdx) : decode (encode (.bufRead a)) = .ok (.bufRead a) := by
  obtain ⟨hk, hz, ha, hb⟩ := ht32_buf_fields 2#2 a 0#8
  rw [encode, decode, decodeTransaction, hk, hz, ha, hb]
  rfl

theorem decode_encode_bufWrite (a : BufIdx) (b : Byte) : decode (encode (.bufWrite a b)) = .ok (.bufWrite a b) := by
  obtain ⟨hk, hz, ha, hb⟩ := ht32_buf_fields 3#2 a b
  rw [encode, decode, decodeTransaction, hk, hz, ha, hb]
  rfl

/-- Settles O1: a command's word decodes to the command, and a transaction's word reads back its fields. -/
theorem decodeOfEncode : Obligations.DecodeOfEncode := by
  intro i
  cases i with
  | nop => exact decode_command_word .nop
  | clear => exact decode_command_word .clear
  | extract => exact decode_command_word .extract
  | verify => exact decode_command_word .verify
  | decode => exact decode_command_word .decode
  | cycle => exact decode_command_word .cycle
  | crc => exact decode_command_word .crc
  | regRead r => exact decode_encode_regRead r
  | regWrite r v => exact decode_encode_regWrite r v
  | bufRead a => exact decode_encode_bufRead a
  | bufWrite a b => exact decode_encode_bufWrite a b

/-! ### Encoding a decoded word -/

theorem encode_command (c : Command) : encode c.instr = .cmd16 c.word := by
  cases c <;> rfl

/-- A word with K = k and Z = 0, as the join of its register fields (R106). -/
theorem ht32_reg_join_of_kind {w : BitVec 32} {k : BitVec 2} (hk : (w.extractLsb' 30 2).toNat = k.toNat)
    (hz : w.extractLsb' 24 6 = 0#6) : k ++ 0#6 ++ w.extractLsb' 16 8 ++ w.extractLsb' 0 16 = w := by
  rw [← BitVec.eq_of_toNat_eq hk, ← hz, ht32_reg_join]

/-- A word with K = k and Z = 0, as the join of its buffer fields (R106). -/
theorem ht32_buf_join_of_kind {w : BitVec 32} {k : BitVec 2} (hk : (w.extractLsb' 30 2).toNat = k.toNat)
    (hz : w.extractLsb' 24 6 = 0#6) : k ++ 0#6 ++ w.extractLsb' 8 16 ++ w.extractLsb' 0 8 = w := by
  rw [← BitVec.eq_of_toNat_eq hk, ← hz, ht32_buf_join]

/-- The four kinds of transaction, and the unused bits of the two reads, leave no second word for an instruction. -/
theorem encode_of_decodeTransaction {w : BitVec 32} {i : Instr} (h : decodeTransaction w = .ok i) :
    encode i = .ht32 w := by
  unfold decodeTransaction at h
  split at h
  · next hz =>
    split at h
    · next hk =>
      split at h
      · next hv =>
        cases h
        rw [encode, ← hv, ht32_reg_join_of_kind hk hz]
      · cases h
    · next hk =>
      cases h
      rw [encode, ht32_reg_join_of_kind hk hz]
    · next hk =>
      split at h
      · next hb =>
        cases h
        rw [encode, ← hb, ht32_buf_join_of_kind hk hz]
      · cases h
    · next h0 h1 h2 =>
      cases h
      have hlt := (w.extractLsb' 30 2).isLt
      have hk : (w.extractLsb' 30 2).toNat = 3 := by
        simp only [imp_false] at h0 h1 h2
        omega
      rw [encode, ht32_buf_join_of_kind (k := 3#2) hk hz]
  · cases h

/-- Settles O2: a command word is its command's, and an HT32 word is the join of its fields. -/
theorem encodeOfDecode : Obligations.EncodeOfDecode := by
  intro w i h
  cases w with
  | cmd16 v =>
    simp only [decode] at h
    split at h
    · next c hc =>
      cases h
      rw [encode_command, eq_word_of_decodeCommand hc]
    · cases h
  | ht32 w => exact encode_of_decodeTransaction h

theorem decode_eq_ok_iff {w : HostWord} {i : Instr} : decode w = .ok i ↔ w = encode i :=
  ⟨fun h => (encodeOfDecode w i h).symm, fun h => h ▸ decodeOfEncode i⟩

/-! ### The opcode table -/

theorem append_eq_append_iff {n m : Nat} {x x' : BitVec n} {y y' : BitVec m} :
    x ++ y = x' ++ y' ↔ x = x' ∧ y = y' := by
  refine ⟨fun h => ⟨?_, ?_⟩, fun ⟨hx, hy⟩ => hx ▸ hy ▸ rfl⟩
  · simpa only [BitVec.extractLsb'_append_eq_left] using congrArg (BitVec.extractLsb' m n) h
  · simpa only [BitVec.extractLsb'_append_eq_right] using congrArg (BitVec.extractLsb' 0 m) h

theorem exists_append_eq {n m : Nat} (w : BitVec (n + m)) : ∃ (x : BitVec n) (y : BitVec m), w = x ++ y :=
  ⟨w.extractLsb' m n, w.extractLsb' 0 m, BitVec.extractLsb'_append_extractLsb'.symm⟩

/-- A match under a mask of a head, a free field and a tail: the words with that head, and a tail that is 0 where the
mask is set. -/
theorem and_mask_eq_iff {p n m : Nat} (w : BitVec (p + n + m)) (head : BitVec p) (mask : BitVec m) :
    w &&& (BitVec.allOnes p ++ 0#n ++ mask) = head ++ 0#n ++ 0#m ↔
      ∃ (a : BitVec n) (b : BitVec m), b &&& mask = 0#m ∧ w = head ++ a ++ b := by
  obtain ⟨x, tail, rfl⟩ := exists_append_eq w
  obtain ⟨h, field, rfl⟩ := exists_append_eq x
  simp only [BitVec.and_append, append_eq_append_iff, BitVec.and_allOnes, BitVec.and_zero, and_true]
  constructor
  · rintro ⟨rfl, htail⟩
    exact ⟨field, tail, htail, ⟨rfl, rfl⟩, rfl⟩
  · rintro ⟨a, b, hb, ⟨rfl, -⟩, rfl⟩
    exact ⟨rfl, hb⟩

theorem and_mask_fixed_eq_iff {p n m : Nat} (w : BitVec (p + n + m)) (head : BitVec p) :
    w &&& (BitVec.allOnes p ++ 0#n ++ BitVec.allOnes m) = head ++ 0#n ++ 0#m ↔
      ∃ a : BitVec n, w = head ++ a ++ 0#m := by
  simp [and_mask_eq_iff]

theorem and_mask_free_eq_iff {p n m : Nat} (w : BitVec (p + n + m)) (head : BitVec p) :
    w &&& (BitVec.allOnes p ++ 0#n ++ 0#m) = head ++ 0#n ++ 0#m ↔
      ∃ (a : BitVec n) (b : BitVec m), w = head ++ a ++ b := by
  simp [and_mask_eq_iff]

theorem decode_cmd16_iff (v : Word) (c : Command) : decode (.cmd16 v) = .ok c.instr ↔ v &&& 0xFFFF#16 = c.word := by
  rw [decode_eq_ok_iff, encode_command, HostWord.cmd16.injEq, show 0xFFFF#16 = BitVec.allOnes 16 from rfl,
    BitVec.and_allOnes]

/-- Settles O3: each row's match under its mask fixes the head and the unused bits of its words and leaves the operands
free. -/
theorem decodeFollowsTheOpcodeTable : Obligations.DecodeFollowsTheOpcodeTable := by
  refine ⟨fun v => ⟨decode_cmd16_iff v .nop, decode_cmd16_iff v .clear, decode_cmd16_iff v .extract,
    decode_cmd16_iff v .verify, decode_cmd16_iff v .decode, decode_cmd16_iff v .cycle, decode_cmd16_iff v .crc⟩,
    fun w => ?_⟩
  simp only [decode_eq_ok_iff, encode, HostWord.ht32.injEq]
  exact ⟨(and_mask_fixed_eq_iff (p := 8) (n := 8) (m := 16) w 0x00#8).symm,
    (and_mask_free_eq_iff (p := 8) (n := 8) (m := 16) w 0x40#8).symm,
    (and_mask_fixed_eq_iff (p := 8) (n := 16) (m := 8) w 0x80#8).symm,
    (and_mask_free_eq_iff (p := 8) (n := 16) (m := 8) w 0xC0#8).symm⟩

end Sys2Proof.Machine
end

section
/-! The words at the port: which decode, which are illegal or name no transaction, and the run of `setbuf` (R101, R103,
R106, R108). -/

namespace Sys2Proof.Machine

open Sys2Proof

/-! ### Words that decode -/

/-- Settles O4: each of the twelve words is decoded as it stands. -/
theorem specWordsDecode : Obligations.SpecWordsDecode := by
  unfold Obligations.SpecWordsDecode
  decide

/-! ### Words that do not decode -/

/-- The word of an instruction names an instruction (R101, R106). -/
theorem wellFormed_encode (i : Instr) : (encode i).wellFormed = true := by
  cases i with
  | nop => exact Laws.WordWellFormed.nop
  | clear => exact Laws.WordWellFormed.clear
  | extract => exact Laws.WordWellFormed.extract
  | verify => exact Laws.WordWellFormed.verify
  | decode => exact Laws.WordWellFormed.decode
  | cycle => exact Laws.WordWellFormed.cycle
  | crc => exact Laws.WordWellFormed.crc
  | regRead r => exact Laws.WordWellFormed.regRead r
  | regWrite r v => exact Laws.WordWellFormed.regWrite r v
  | bufRead a => exact Laws.WordWellFormed.bufRead a
  | bufWrite a b => exact Laws.WordWellFormed.bufWrite a b

theorem decode_rejected_of_not_wellFormed {w : HostWord} (h : w.wellFormed = false) :
    ∃ r, decode w = .rejected r := by
  cases hd : decode w with
  | rejected r => exact ⟨r, rfl⟩
  | ok i =>
    obtain rfl := decode_eq_ok_iff.1 hd
    rw [wellFormed_encode] at h
    cases h

theorem step_of_rejected {s : State} {w : HostWord} {rest : List PortEvent} {r : Reject}
    (hport : s.port = .request w :: rest) (hdecode : decode w = .rejected r) : step s = undecoded w (s.take rest) := by
  simp only [step, hport, hdecode]

/-- Settles O9: the write of CMD is a clause of O45, and off the port the word is rejected by the same decoder. -/
theorem illegalCommandWordOnlySetsIllegal : Obligations.IllegalCommandWordOnlySetsIllegal := by
  intro v s hbad
  obtain ⟨-, hwrite, -⟩ := regWriteEffect s v
  refine ⟨hwrite hbad, fun rest => ?_⟩
  obtain ⟨r, hr⟩ := decodeCommand_rejected hbad
  have hdecode : decode (.cmd16 v) = .rejected r := by rw [decode, hr]
  exact step_of_rejected rfl hdecode

/-- Settles O10: an encoding is well formed, so a word that is not decodes to no instruction. -/
theorem wordThatNamesNoTransactionIsRefused : Obligations.WordThatNamesNoTransactionIsRefused := by
  intro w s rest h
  obtain ⟨r, hr⟩ := decode_rejected_of_not_wellFormed h
  exact step_of_rejected rfl hr

/-! ### A run of host transactions -/

theorem step_hostEvents_cons {s : State} {i : Instr} {is : List Instr} (hport : s.port = hostEvents (i :: is)) :
    step s = .next (afterInstr i (s.take (hostEvents is))) :=
  (stepRunsTheDecodedInstruction s (encode i) (hostEvents is) i hport (decodeOfEncode i)).trans (exec_eq_next i _)

theorem run_succ_of_step {M : Host.Core} {k : Nat} {s t : M.State} (h : M.step s = .next t) :
    M.run (k + 1) s = M.run k t := by
  simp only [Host.Core.run, h]

/-- A run of host transactions is its first instruction, then the run of the others. -/
theorem runsTo_hostEvents_cons {k : Nat} {s t : State} {i : Instr} {is : List Instr}
    (hport : s.port = hostEvents (i :: is)) (hrun : RunsTo k (afterInstr i (s.take (hostEvents is))) t) :
    RunsTo (k + 1) s t :=
  (run_succ_of_step (M := Sys2Proof.core) (step_hostEvents_cons hport)).trans hrun

/-! ### The bytes that `setbuf` writes -/

/-- IBUF's list after the bytes `bs` are written from address `a` on, ascending (R108). -/
def Memory.setBytes (m : Memory) (a : Nat) : List Byte → Memory
  | [] => m
  | b :: bs => Memory.setBytes (Memory.set m a b) (a + 1) bs

theorem Memory.get?_setBytes_below (bs : List Byte) (m : Memory) {a k : Nat} (h : k < a) :
    Memory.get? (Memory.setBytes m a bs) k = Memory.get? m k := by
  induction bs generalizing m a with
  | nil => rfl
  | cons b bs ih => rw [Memory.setBytes, ih _ (by omega), Memory.get?_set_other _ _ (by omega)]

theorem Memory.get?_setBytes (bs : List Byte) (m : Memory) (a : Nat) {k : Nat} (h : k < bs.length) :
    Memory.get? (Memory.setBytes m a bs) (a + k) = some bs[k] := by
  induction bs generalizing m a k with
  | nil => cases h
  | cons b bs ih =>
    rw [Memory.setBytes]
    cases k with
    | zero => exact (Memory.get?_setBytes_below bs _ (by omega)).trans (Memory.get?_set_same m a b)
    | succ k =>
      rw [List.length_cons] at h
      rw [show a + (k + 1) = a + 1 + k by omega, ih _ _ (by omega)]
      rfl

theorem State.ibufByte_of_setBytes {s : State} {m : Memory} {bs : List Byte} (h : s.ibuf = Memory.setBytes m 0 bs)
    {k : Nat} (hk : k < bs.length) : s.ibufByte k = bs[k] := by
  have hget := Memory.get?_setBytes bs m 0 hk
  rw [Nat.zero_add] at hget
  rw [State.ibufByte, h, hget, Option.getD_some]

/-! ### The run of `setbuf` -/

/-- The state once IBUF and IBUF_LEN are loaded and no transaction is left on the port. -/
abbrev State.loadedIbuf (s : State) (m : Memory) (n : Word) : State := (s.loadIbuf m n).take []

theorem afterInstr_bufWrite_unheld {s : State} (hfree : ¬ (s.phase = .verifying ∨ s.phase = .decoding)) {a : Nat}
    (ha : a < s.cfg.bufCap) (hcap : s.cfg.bufCap < 65536) (b : Byte) :
    afterInstr (.bufWrite (index16 a) b) s = s.loadIbuf (Memory.set s.ibuf a b) s.ibufLen := by
  have haddr : (index16 a).toNat = a := index16_toNat (by omega)
  rw [afterInstr_bufWrite_below (haddr.symm ▸ ha), State.loadIbuf_invalidate_unheld hfree, haddr]

theorem afterInstr_ibufLen_unheld {s : State} (hfree : ¬ (s.phase = .verifying ∨ s.phase = .decoding)) {n : Nat}
    (hn : n ≤ s.cfg.bufCap) (hcap : s.cfg.bufCap < 65536) :
    afterInstr (.regWrite 0x04#8 (index16 n)) s = s.loadIbuf s.ibuf (index16 n) := by
  rw [afterInstr_ibufLen, State.loadIbuf_invalidate_unheld hfree, index16_toNat (by omega), Nat.min_eq_left hn]

/-- The rest of `setbuf` from address `a` on: each byte goes to the next address, and then IBUF_LEN is written. -/
theorem runsTo_loadedIbuf {n : Nat} (bs : List Byte) (s : State) (a : Nat)
    (hfree : ¬ (s.phase = .verifying ∨ s.phase = .decoding)) (hn : n ≤ s.cfg.bufCap) (hcap : s.cfg.bufCap < 65536)
    (hfit : a + bs.length ≤ s.cfg.bufCap)
    (hport : s.port = hostEvents (expandLoad a bs ++ [.regWrite RegName.ibufLen.number (index16 n)])) :
    RunsTo (bs.length + 1) s (s.loadedIbuf (Memory.setBytes s.ibuf a bs) (index16 n)) := by
  induction bs generalizing s a with
  | nil =>
    have hwrite := afterInstr_ibufLen_unheld (s := s.take []) hfree hn hcap
    refine runsTo_hostEvents_cons hport ?_
    exact congrArg Host.Outcome.next hwrite
  | cons b bs ih =>
    rw [List.length_cons] at hfit
    have ha : a < s.cfg.bufCap := by omega
    have hrest : a + 1 + bs.length ≤ s.cfg.bufCap := by omega
    refine runsTo_hostEvents_cons (is := expandLoad (a + 1) bs ++ _) hport ?_
    rw [← index16, afterInstr_bufWrite_unheld (s := s.take _) hfree ha hcap]
    exact ih _ (a + 1) hfree hn hcap hrest rfl

/-- Settles O57: the run writes the bytes from address 0 on, and each reads back where it was written. -/
theorem setbufLoadsTheBytes : Obligations.SetbufLoadsTheBytes := by
  intro s bytes hfit hcfg hfree
  have hcap : s.cfg.bufCap < 65536 := (State.resetWith_inv hcfg 0).inputsFit.bufCap_lt
  refine ⟨_, runsTo_loadedIbuf bytes _ 0 hfree hfit hcap (by simpa using hfit) ?_, ⟨?_, fun k hk => ?_⟩, rfl⟩
  · rw [scriptEvents, List.flatMap_singleton]
    rfl
  · exact index16_toNat (by omega)
  · exact State.ibufByte_of_setBytes rfl hk

end Sys2Proof.Machine
end

section
/-! EXTRACT: the first markers that the search finds, the frame it holds, and what its result depends on (R121 to
R127). -/

namespace Sys2Proof.Machine

open Sys2Proof

/-! ### The marker search -/

/-- What the search finds is the first marker (R123, R124). -/
theorem State.findMarker_eq_some_iff_firstMarker {s : State} {m : Byte × Byte} {lo i : Nat} :
    s.findMarker m lo = some i ↔ s.FirstMarker m.1 m.2 lo i := by
  simp only [State.findMarker_eq_some, State.FirstMarker, State.MarkerAt, ← State.matchAt_iff, Bool.not_eq_true]

theorem State.findMarker_eq_none_iff_not_markerAt {s : State} {m : Byte × Byte} {lo : Nat} :
    s.findMarker m lo = none ↔ ∀ i, lo ≤ i → ¬ s.MarkerAt m.1 m.2 i := by
  simp only [State.findMarker_eq_none, State.MarkerAt, ← State.matchAt_iff, Bool.not_eq_true]

/-- The search reads IBUF_LEN and the bytes below it only (R120, R127). -/
theorem State.findMarker_eq_of_sameBytes {s s' : State} (hlen : s'.ibufLen = s.ibufLen)
    (hbytes : ∀ k, k < s.ibufLen.toNat → s'.ibufByte k = s.ibufByte k) (m : Byte × Byte) (lo : Nat) :
    s'.findMarker m lo = s.findMarker m lo :=
  have hsame : s.SameBelow s'.ibuf s'.draw := hbytes
  (State.findMarker_congr (s := s.withIbuf s'.ibuf s'.draw) hlen rfl rfl m lo).trans (hsame.findMarker m lo)

/-! ### The outcome of EXTRACT, by what the searches find -/

section Found

variable {s : State} {sof eof : Nat}

theorem extractBody_of_noSof (hsof : s.findMarker sofMarker 0 = none) :
    extractBody s = .ended (s.searching.raiseFailure .markerNotFoundSof) := by
  obtain ⟨-, h⟩ | ⟨sof', hsof', -⟩ | ⟨sof', eof', hsof', -⟩ := extractBody_cases s
  · exact h
  · simp [hsof] at hsof'
  · simp [hsof] at hsof'

theorem extractBody_of_noEof (hsof : s.findMarker sofMarker 0 = some sof)
    (heof : s.findMarker eofMarker (sof + 2) = none) :
    extractBody s = .ended ((s.searching.holdSof sof).raiseFailure .markerNotFoundEof) := by
  obtain ⟨hsof', -⟩ | ⟨sof', hsof', -, h⟩ | ⟨sof', eof', hsof', heof', -⟩ := extractBody_cases s
  · simp [hsof] at hsof'
  · cases hsof.symm.trans hsof'
    exact h
  · cases hsof.symm.trans hsof'
    simp [heof] at heof'

theorem extractBody_of_frame (hsof : s.findMarker sofMarker 0 = some sof)
    (heof : s.findMarker eofMarker (sof + 2) = some eof) :
    extractBody s = .goesOn ((s.searching.holdSof sof).holdFrame eof (eof + 2 - sof)) := by
  obtain ⟨hsof', -⟩ | ⟨sof', hsof', heof', -⟩ | ⟨sof', eof', hsof', heof', h⟩ := extractBody_cases s
  · simp [hsof] at hsof'
  · cases hsof.symm.trans hsof'
    simp [heof] at heof'
  · cases hsof.symm.trans hsof'
    cases heof.symm.trans heof'
    exact h

end Found

theorem exec_extract (s : State) : exec .extract s = .next (extractBody s).state := exec_eq_next .extract s

/-- A write of a command's word to CMD runs the command (R73, R100). -/
theorem exec_regWrite_commandWord (c : Command) (s : State) :
    exec (.regWrite 0x00#8 c.word) s = exec c.instr s := by
  obtain ⟨hcommand, -⟩ := regWriteEffect s c.word
  exact hcommand c

/-- Settles O27: the three outcomes of EXTRACT, each where its searches come to what the case says. -/
theorem extractHoldsTheFirstFrame : Obligations.ExtractHoldsTheFirstFrame := by
  intro s
  refine ⟨exec_regWrite_commandWord .extract s, fun hnone => ?_, fun sof hsof hnone => ?_,
    fun sof eof hsof heof => ?_⟩
  · have hsof := State.findMarker_eq_none_iff_not_markerAt (m := sofMarker) (lo := 0).2 fun i _ => hnone i
    rw [exec_extract, extractBody_of_noSof hsof]
    rfl
  · have hsof := State.findMarker_eq_some_iff_firstMarker (m := sofMarker).2 hsof
    have heof := State.findMarker_eq_none_iff_not_markerAt (m := eofMarker).2 hnone
    rw [exec_extract, extractBody_of_noEof hsof heof]
    rfl
  · have hsof := State.findMarker_eq_some_iff_firstMarker (m := sofMarker).2 hsof
    have heof := State.findMarker_eq_some_iff_firstMarker (m := eofMarker).2 heof
    rw [exec_extract, extractBody_of_frame hsof heof]
    rfl

/-- EXTRACT clears the result group first, so equal searches leave equal results (R127). -/
theorem extractBody_sameResults {s s' : State} (hcfg : s'.cfg = s.cfg)
    (hfind : ∀ m lo, s'.findMarker m lo = s.findMarker m lo) :
    (extractBody s).state.SameResults (extractBody s').state ∧
      (extractBody s').state.cmdStatus = (extractBody s).state.cmdStatus := by
  obtain ⟨hsof, h⟩ | ⟨sof, hsof, heof, h⟩ | ⟨sof, eof, hsof, heof, h⟩ := extractBody_cases s <;> rw [h]
  · rw [extractBody_of_noSof ((hfind _ _).trans hsof)]
    simp [State.SameResults, hcfg]
  · rw [extractBody_of_noEof ((hfind _ _).trans hsof) ((hfind _ _).trans heof)]
    simp [State.SameResults, hcfg]
  · rw [extractBody_of_frame ((hfind _ _).trans hsof) ((hfind _ _).trans heof)]
    simp [State.SameResults, hcfg]

/-- Settles O28: both searches read valid bytes only, and their answers alone decide what EXTRACT writes. -/
theorem extractDependsOnTheValidBytesOnly : Obligations.ExtractDependsOnTheValidBytesOnly := by
  intro s s' hcfg hlen hbytes
  obtain ⟨hresults, hstatus⟩ := extractBody_sameResults hcfg (State.findMarker_eq_of_sameBytes hlen hbytes)
  obtain ⟨hinputs, hcrc⟩ := extractBody_stageFrame s
  exact ⟨_, _, exec_extract s, exec_extract s', hresults, hstatus, hinputs, hcrc⟩

end Sys2Proof.Machine
end

section
/-! A wire frame in IBUF: where its markers, data and CRC stand, and how EXTRACT and VERIFY take it (R13, R126,
R146). -/

namespace Sys2Proof.Machine

open Sys2Proof

/-! ### Loaded bytes -/

section Loaded

variable {s : State}

theorem State.Loaded.ibufByte_of_getElem? {bytes : List Byte} (h : s.Loaded bytes) {k : Nat} {b : Byte}
    (hk : bytes[k]? = some b) : s.ibufByte k = b := by
  obtain ⟨hlt, rfl⟩ := List.getElem?_eq_some_iff.1 hk
  exact h.2 k hlt

/-- Part of the loaded bytes is read where it stands. -/
theorem State.Loaded.bufRange_middle {front mid back : List Byte} (h : s.Loaded (front ++ mid ++ back)) :
    s.bufRange front.length (front.length + mid.length) = mid := by
  apply List.ext_getElem (by simp)
  intro k h1 h2
  rw [State.bufRange_getElem]
  apply h.ibufByte_of_getElem?
  simp [List.getElem?_append, h2]

theorem State.Loaded.ibufByte_pair {front back : List Byte} {b0 b1 : Byte}
    (h : s.Loaded (front ++ [b0, b1] ++ back)) :
    s.ibufByte front.length = b0 ∧ s.ibufByte (front.length + 1) = b1 :=
  ⟨h.ibufByte_of_getElem? (by simp), h.ibufByte_of_getElem? (by simp)⟩

theorem State.Loaded.markerAt_pair {front back : List Byte} {m0 m1 : Byte}
    (h : s.Loaded (front ++ [m0, m1] ++ back)) : s.MarkerAt m0 m1 front.length := by
  refine ⟨?_, h.ibufByte_pair⟩
  rw [h.1]
  simp

/-- A big-endian pair reads back as its word (R10, R11). -/
theorem State.Loaded.memRead2_be16 {front back : List Byte} {v : Word} (h : s.Loaded (front ++ be16 v ++ back)) :
    s.memRead2 front.length = v := by
  obtain ⟨hhigh, hlow⟩ := h.ibufByte_pair
  rw [State.memRead2, hhigh, hlow, BitVec.extractLsb'_append_extractLsb'_eq_extractLsb' (by rfl)]
  exact BitVec.extractLsb'_eq_self

theorem State.Loaded.firstMarker_zero {back : List Byte} {m0 m1 : Byte} (h : s.Loaded ([m0, m1] ++ back)) :
    s.FirstMarker m0 m1 0 0 :=
  ⟨le_rfl, State.Loaded.markerAt_pair (front := []) h, fun _ _ hj => absurd hj (Nat.not_lt_zero _)⟩

/-- An EOF behind bytes with no EOF inside is the first one after `front`: a match that takes the last of those bytes
would need `22` for `CE`. -/
theorem State.Loaded.firstMarker_eof {front mid : List Byte} (h : s.Loaded (front ++ mid ++ [0x22#8, 0xCE#8]))
    (hno : NoEofInside mid) : s.FirstMarker 0x22#8 0xCE#8 front.length (front.length + mid.length) := by
  have heof : s.MarkerAt 0x22#8 0xCE#8 (front ++ mid).length :=
    State.Loaded.markerAt_pair (back := []) (by simpa using h)
  rw [List.length_append] at heof
  refine ⟨Nat.le_add_right _ _, heof, fun j hlo hj hmark => ?_⟩
  obtain ⟨k, rfl⟩ := Nat.exists_eq_add_of_le hlo
  obtain ⟨-, hbyte, hnext⟩ := hmark
  have hmid : ∀ i (hi : i < mid.length), s.ibufByte (front.length + i) = mid[i] := fun i hi =>
    h.ibufByte_of_getElem? (by simp [List.getElem?_append, hi])
  by_cases hk : k + 1 < mid.length
  · exact hno k hk ⟨(hmid k (by omega)).symm.trans hbyte, (hmid (k + 1) hk).symm.trans hnext⟩
  · obtain ⟨-, hfirst, -⟩ := heof
    rw [show front.length + mid.length = front.length + k + 1 by omega, hnext] at hfirst
    exact absurd hfirst (by decide)

end Loaded

/-! ### The wire frame -/

section WireFrame

variable {s : State} {data : List Byte}

@[simp] theorem be16_length (v : Word) : (be16 v).length = 2 := rfl

/-- The data of a wire frame, between its SOF and its tail (R13). -/
theorem wireFrame_eq_data (data : List Byte) :
    wireFrame data = [0x1A#8, 0x85#8] ++ data ++ (be16 (crc16 data) ++ [0x22#8, 0xCE#8]) := by
  simp [wireFrame, sofMarker, eofMarker]

/-- What stands between the markers of a wire frame (R13). -/
theorem wireFrame_eq_marked (data : List Byte) :
    wireFrame data = [0x1A#8, 0x85#8] ++ (data ++ be16 (crc16 data)) ++ [0x22#8, 0xCE#8] := by
  simp [wireFrame, sofMarker, eofMarker]

@[simp] theorem wireFrame_length (data : List Byte) : (wireFrame data).length = data.length + 6 := by
  simp [wireFrame]

/-- IBUF_LEN has 16 bits, so a loaded wire frame's indices fit a register. -/
theorem State.Loaded.wireFrame_length_lt (h : s.Loaded (wireFrame data)) : data.length + 6 < 65536 := by
  rw [← wireFrame_length, ← h.1]
  exact s.ibufLen.isLt

/-- EXTRACT holds the whole wire frame, where neither its data nor its CRC has an EOF inside (R123 to R125). -/
theorem extractBody_wireFrame (h : s.Loaded (wireFrame data)) (hno : NoEofInside (data ++ be16 (crc16 data))) :
    extractBody s = .goesOn ((s.searching.holdSof 0).holdFrame (data.length + 4) (data.length + 6)) := by
  rw [wireFrame_eq_marked] at h
  have hsof : s.FirstMarker 0x1A#8 0x85#8 0 0 := State.Loaded.firstMarker_zero (by simpa using h)
  have heof : s.FirstMarker 0x22#8 0xCE#8 (0 + 2) (data.length + 4) := by
    have hfirst := h.firstMarker_eof hno
    rwa [List.length_append, be16_length, List.length_cons, List.length_singleton,
      show 2 + (data.length + 2) = data.length + 4 by omega] at hfirst
  exact extractBody_of_frame (State.findMarker_eq_some_iff_firstMarker (m := sofMarker).2 hsof)
    (State.findMarker_eq_some_iff_firstMarker (m := eofMarker).2 heof)

/-- The frame view is held, and it is the whole of a loaded wire frame. -/
structure State.HoldsWireFrame (s : State) (data : List Byte) : Prop where
  phase : s.phase = .verifying
  loaded : s.Loaded (wireFrame data)
  sofIdx : s.sofIdx.toNat = 0
  frameLen : s.frameLen.toNat = data.length + 6

/-- The state that EXTRACT leaves on a loaded wire frame. -/
theorem State.Loaded.holdsWireFrame (h : s.Loaded (wireFrame data)) :
    ((s.searching.holdSof 0).holdFrame (data.length + 4) (data.length + 6)).HoldsWireFrame data where
  phase := rfl
  loaded := h
  sofIdx := rfl
  frameLen := index16_toNat h.wireFrame_length_lt

theorem State.HoldsWireFrame.crcData_eq (h : s.HoldsWireFrame data) : s.crcData = data := by
  have hmid : s.bufRange 2 (2 + data.length) = data := (wireFrame_eq_data data ▸ h.loaded).bufRange_middle
  rw [State.crcData, h.sofIdx, h.frameLen, show 0 + (data.length + 6) - 4 = 2 + data.length by omega]
  exact hmid

theorem State.HoldsWireFrame.crcField_eq (h : s.HoldsWireFrame data) : s.crcField = crc16 data := by
  have hfield : s.memRead2 (data.length + 2) = crc16 data :=
    State.Loaded.memRead2_be16 (front := [sofMarker.1, sofMarker.2] ++ data) h.loaded
  rw [State.crcField, h.sofIdx, h.frameLen, show 0 + (data.length + 6) - 4 = data.length + 2 by omega]
  exact hfield

/-- With HDR_END at the end of the header and TAIL_TRIM = 4, StripPayload keeps the payload (R146). -/
theorem State.stripPayload_wireFrame {header payload : List Byte} (hhdr : s.hdrEnd.toNat = 2 + header.length)
    (htail : s.tailTrim = 4#16) :
    s.stripPayload 0 ((header ++ payload).length + 6) = (2 + header.length, payload.length) := by
  have hfour : s.tailTrim.toNat = 4 := by rw [htail]; rfl
  simp only [State.stripPayload, hhdr, hfour, List.length_append, Prod.mk.injEq]
  rw [if_pos (by omega)]
  omega

/-- The state that VERIFY leaves on a held wire frame of this header and payload. -/
theorem verifyBody_wireFrame {header payload : List Byte} (h : s.HoldsWireFrame (header ++ payload))
    (hhdr : s.hdrEnd.toNat = 2 + header.length) (htail : s.tailTrim = 4#16) :
    verifyBody s = .goesOn (s.checked.holdPayload (2 + header.length) payload.length) := by
  have hlen := h.frameLen
  obtain ⟨hshort, -⟩ | ⟨-, hne, -⟩ | ⟨-, -, hheld⟩ := verifyBody_cases s
  · omega
  · exact absurd (h.crcData_eq ▸ h.crcField_eq.symm) hne
  · rw [hheld, h.sofIdx, h.frameLen, State.stripPayload_wireFrame hhdr htail]

/-- The payload of a loaded wire frame stands behind its header. -/
theorem State.Loaded.bufRange_payload {header payload : List Byte}
    (h : s.Loaded (wireFrame (header ++ payload))) :
    s.bufRange (2 + header.length) (2 + header.length + payload.length) = payload := by
  have hmid := State.Loaded.bufRange_middle (s := s) (front := [0x1A#8, 0x85#8] ++ header) (mid := payload)
    (by simpa [wireFrame_eq_data] using h)
  rwa [List.length_append] at hmid

end WireFrame

theorem exec_verify_of_verifying {s : State} (hp : s.phase = .verifying) :
    exec .verify s = .next (verifyBody s).state := by
  rw [exec_eq_next, afterInstr, cmdVerify, if_pos hp]

/-- Settles O55: EXTRACT holds the whole frame, its CRC field is the CRC of its data, and StripPayload keeps the
payload. -/
theorem wireFrameRoundTrip : Obligations.WireFrameRoundTrip := by
  intro s header payload hload hno hhdr htail
  have hlen := hload.wireFrame_length_lt
  rw [List.length_append] at hlen
  have hheld := hload.holdsWireFrame
  have hextract := exec_extract s
  rw [extractBody_wireFrame hload hno] at hextract
  have hverify := exec_verify_of_verifying hheld.phase
  rw [verifyBody_wireFrame hheld hhdr htail] at hverify
  refine ⟨_, _, hextract, hverify, rfl, rfl, rfl, hheld.crcField_eq, ?_⟩
  rw [StageResult.state_goesOn, State.holdPayload_bufRange, State.holdPayload_payloadOff,
    State.holdPayload_payloadLen, index16_toNat (by omega), index16_toNat (by omega), State.holdCrcs_bufRange,
    State.setCmdStatus_bufRange]
  exact hheld.loaded.bufRange_payload

end Sys2Proof.Machine
end

section
/-! The CRC-16/CCITT function: a shift is linear and one to one, so both forms take a byte alike and no byte is lost
(R140 to R144, R150). -/

namespace Sys2Proof.Machine

open Sys2Proof

/-! ### The shift -/

/-- A shift as one exclusive or, with the polynomial where the top bit leaves. -/
theorem crcShift_eq_xor (c : Word) : crcShift c = c <<< 1 ^^^ (if c.msb then crcPoly else 0#16) := by
  unfold crcShift
  split <;> simp

/-- A shift is linear over exclusive or. -/
theorem crcShift_xor (c d : Word) : crcShift (c ^^^ d) = crcShift c ^^^ crcShift d := by
  have hpoly : (if (c ^^^ d).msb then crcPoly else 0#16) =
      (if c.msb then crcPoly else 0#16) ^^^ (if d.msb then crcPoly else 0#16) := by
    rw [BitVec.msb_xor]
    cases c.msb <;> cases d.msb <;> rfl
  simp only [crcShift_eq_xor, hpoly, BitVec.shiftLeft_xor_distrib]
  ac_rfl

theorem crcShift8_xor (c d : Word) : crcShift8 (c ^^^ d) = crcShift8 c ^^^ crcShift8 d := by
  simp only [crcShift8, crcShift_xor]

/-- The polynomial is odd, so the lowest bit after a shift is the bit that has left. -/
theorem crcShift_getLsbD_zero (c : Word) : (crcShift c).getLsbD 0 = c.msb := by
  rw [crcShift_eq_xor]
  cases c.msb <;> simp [crcPoly]

/-- No shift loses a bit: the lowest bit afterwards tells whether the polynomial was added. -/
theorem crcShift_injective : Function.Injective crcShift := by
  intro c d h
  have hmsb : c.msb = d.msb := by rw [← crcShift_getLsbD_zero, h, crcShift_getLsbD_zero]
  rw [crcShift_eq_xor, crcShift_eq_xor, hmsb, BitVec.xor_left_inj] at h
  have hlow := congrArg BitVec.toNat h
  simp only [BitVec.toNat_shiftLeft, Nat.shiftLeft_eq] at hlow
  simp only [BitVec.msb_eq_decide, decide_eq_decide] at hmsb
  apply BitVec.eq_of_toNat_eq
  omega

theorem crcShift8_injective : Function.Injective crcShift8 := by
  intro c d h
  simpa only [crcShift8, crcShift_injective.eq_iff] using h

/-- While the top bit is clear, a shift only moves the bits up. -/
theorem crcShift_of_lt {c : Word} (h : c.toNat < 2 ^ 15) : crcShift c = c <<< 1 := by
  have hmsb : c.msb = false := by simpa [BitVec.msb_eq_decide] using h
  simp [crcShift, hmsb]

/-- With the high byte clear, all eight shifts only move the bits up. -/
theorem crcShift8_of_lt {c : Word} (h : c.toNat < 2 ^ 8) : crcShift8 c = c <<< 8 := by
  have hshift : ∀ k < 8, crcShift (c <<< k) = c <<< (k + 1) := by
    intro k hk
    have hpow : c.toNat * 2 ^ k < 2 ^ 8 * 2 ^ 7 :=
      Nat.mul_lt_mul_of_lt_of_le h (Nat.pow_le_pow_right two_pos (by omega)) (by norm_num)
    rw [BitVec.shiftLeft_add, crcShift_of_lt]
    rw [BitVec.toNat_shiftLeft, Nat.shiftLeft_eq]
    omega
  calc crcShift8 c = crcShift8 (c <<< 0) := by rw [BitVec.shiftLeft_zero]
    _ = c <<< 8 := by simp (disch := omega) only [crcShift8, hshift]

/-! ### One byte -/

/-- The register is its high byte moved up, and its low byte. -/
theorem word_eq_high_xor_low (c : Word) :
    c = (c.extractLsb' 8 8).setWidth 16 <<< 8 ^^^ (c.setWidth 8).setWidth 16 := by
  ext i hi
  by_cases h : i < 8
  · simp [h, BitVec.getLsbD_eq_getElem hi]
  · simp [h, BitVec.getLsbD_eq_getElem hi, Nat.add_sub_cancel' (not_lt.1 h), show i - 8 < 8 by omega]

/-- The step of R144 is the step of R143: the high byte and the new byte index the table, the low byte moves up. -/
theorem crcStepBitwise_eq_crcStep (crc : Word) (b : Byte) : crcStepBitwise crc b = crcStep crc b := by
  have hlow : crcShift8 ((crc.setWidth 8).setWidth 16) = crc <<< 8 := by
    rw [crcShift8_of_lt (by rw [BitVec.toNat_setWidth, BitVec.toNat_setWidth]; omega)]
    ext i hi
    simp [show i - 8 < 8 by omega, BitVec.getLsbD_eq_getElem (show i - 8 < 16 by omega)]
  calc crcShift8 (crc ^^^ b.setWidth 16 <<< 8)
      = crcShift8 ((crc.extractLsb' 8 8 ^^^ b).setWidth 16 <<< 8 ^^^ (crc.setWidth 8).setWidth 16) := by
        conv_lhs => rw [word_eq_high_xor_low crc]
        rw [BitVec.setWidth_xor, BitVec.shiftLeft_xor_distrib]
        ac_rfl
    _ = crcTable (crc.extractLsb' 8 8 ^^^ b) ^^^ crc <<< 8 := by rw [crcShift8_xor, hlow, crcTable]
    _ = crcStep crc b := BitVec.xor_comm _ _

/-- Settles O30: both forms fold the same step over the bytes. -/
theorem bitwiseCrcEqualsTableCrc : Obligations.BitwiseCrcEqualsTableCrc := by
  intro d
  rw [crc16Bitwise, crc16, funext₂ crcStepBitwise_eq_crcStep]

/-! ### A changed byte -/

theorem crcStep_injective_register (b : Byte) : Function.Injective fun crc => crcStep crc b := by
  intro c c' h
  simp only [← crcStepBitwise_eq_crcStep] at h
  exact (BitVec.xor_left_inj _).1 (crcShift8_injective h)

theorem crcStep_injective_byte (crc : Word) : Function.Injective (crcStep crc) := by
  intro b b' h
  rw [← crcStepBitwise_eq_crcStep, ← crcStepBitwise_eq_crcStep] at h
  have hhigh := congrArg BitVec.toNat ((BitVec.xor_right_inj _).1 (crcShift8_injective h))
  simp only [BitVec.toNat_shiftLeft, BitVec.toNat_setWidth, Nat.shiftLeft_eq] at hhigh
  apply BitVec.eq_of_toNat_eq
  omega

/-- Equal bytes behind keep two different registers different. -/
theorem foldl_crcStep_injective (d : List Byte) : Function.Injective fun crc => d.foldl crcStep crc := by
  induction d with
  | nil => exact fun _ _ h => h
  | cons b d ih => exact ih.comp (crcStep_injective_register b)

/-- Settles O31: the changed byte gives two registers, and the equal bytes behind it keep them apart. -/
theorem crcDetectsASingleByteError : Obligations.CrcDetectsASingleByteError := by
  intro front back b b' hne h
  simp only [crc16, List.foldl_append, List.foldl_cons] at h
  exact hne (crcStep_injective_byte _ (foldl_crcStep_injective back h))

/-! ### The table and the listed checksums -/

/-- The listed rows, in order, are the generated entries 0x00 to 0xFF. -/
theorem crcListed_eq_map : crcListed = (List.range 256).map fun i => crcTable (BitVec.ofNat 8 i) := by
  have h00 : crcListed00 = (List.range' 0x00 64).map fun i => crcTable (BitVec.ofNat 8 i) := by decide
  have h40 : crcListed40 = (List.range' 0x40 64).map fun i => crcTable (BitVec.ofNat 8 i) := by decide
  have h80 : crcListed80 = (List.range' 0x80 64).map fun i => crcTable (BitVec.ofNat 8 i) := by decide
  have hC0 : crcListedC0 = (List.range' 0xC0 64).map fun i => crcTable (BitVec.ofNat 8 i) := by decide
  rw [crcListed, h00, h40, h80, hC0, List.range_eq_range']
  simp only [← List.map_append, List.range'_append_1 (s := 0)]

theorem crcListed_getElem? (i : Byte) : crcListed[i.toNat]? = some (crcTable i) := by
  rw [crcListed_eq_map, List.getElem?_map, List.getElem?_range i.isLt]
  simp

/-- Settles O29: the table by its rows, the checksums by running R143. -/
theorem crcTableAndKnownValues : Obligations.CrcTableAndKnownValues :=
  ⟨by rw [crcListed_eq_map, List.length_map, List.length_range], crcListed_getElem?, rfl, rfl, rfl, rfl⟩

end Sys2Proof.Machine
end

section
/-! VERIFY: what each outcome writes, the payload under the profiles of the spec, and a corrupted data byte (R145 to
R151). -/

namespace Sys2Proof.Machine

open Sys2Proof

/-! ### The outcome of VERIFY, by the length and the two CRCs -/

section Outcome

variable {s : State}

theorem verifyBody_of_short (hlen : s.frameLen.toNat < 6) :
    verifyBody s = .ended ((s.setCmdStatus .ok).raiseFailure .frameTooShort) := by
  obtain ⟨-, h⟩ | ⟨hge, -⟩ | ⟨hge, -⟩ := verifyBody_cases s
  · exact h
  · omega
  · omega

theorem verifyBody_of_mismatch (hlen : 6 ≤ s.frameLen.toNat) (hcrc : crc16 s.crcData ≠ s.crcField) :
    verifyBody s = .ended (s.checked.raiseFailure .crcMismatch) := by
  obtain ⟨hlt, -⟩ | ⟨-, -, h⟩ | ⟨-, heq, -⟩ := verifyBody_cases s
  · omega
  · exact h
  · exact absurd heq hcrc

theorem verifyBody_of_match (hlen : 6 ≤ s.frameLen.toNat) (hcrc : crc16 s.crcData = s.crcField) :
    verifyBody s = .goesOn (s.checked.holdPayload (s.stripPayload s.sofIdx.toNat s.frameLen.toNat).1
      (s.stripPayload s.sofIdx.toNat s.frameLen.toNat).2) := by
  obtain ⟨hlt, -⟩ | ⟨-, hne, -⟩ | ⟨-, -, h⟩ := verifyBody_cases s
  · omega
  · exact absurd hcrc hne
  · exact h

end Outcome

/-- Only a frame that passes VERIFY is held for DECODE. -/
theorem verifyBody_decoding {s : State} (h : (verifyBody s).state.phase = .decoding) :
    6 ≤ s.frameLen.toNat ∧ crc16 s.crcData = s.crcField := by
  obtain ⟨-, hv⟩ | ⟨-, -, hv⟩ | ⟨hlen, hcrc, -⟩ := verifyBody_cases s
  · simp [hv] at h
  · simp [hv] at h
  · exact ⟨hlen, hcrc⟩

/-! ### A corrupted data byte -/

/-- A range is what stands before an index in it, the byte there, and what stands behind. -/
theorem State.bufRange_eq_append (s : State) {a b k : Nat} (hak : a ≤ k) (hkb : k < b) :
    s.bufRange a b = s.bufRange a k ++ s.ibufByte k :: s.bufRange (k + 1) b := by
  obtain ⟨n, rfl⟩ := Nat.exists_eq_add_of_le hak
  obtain ⟨m, rfl⟩ := Nat.exists_eq_add_of_lt hkb
  simp only [State.bufRange, show a + n + m + 1 - a = n + (m + 1) by omega, show a + n - a = n by omega,
    show a + n + m + 1 - (a + n + 1) = m by omega]
  rw [← List.range'_append_1, List.map_append, List.range'_succ, List.map_cons]

/-- Two states that differ in one byte of a range have different checksums of it (R150). -/
theorem crc16_bufRange_ne {s t : State} {a b k : Nat} (hak : a ≤ k) (hkb : k < b) (hk : t.ibufByte k ≠ s.ibufByte k)
    (hother : ∀ j, j ≠ k → t.ibufByte j = s.ibufByte j) : crc16 (t.bufRange a b) ≠ crc16 (s.bufRange a b) := by
  have hfront : t.bufRange a k = s.bufRange a k := State.bufRange_congr fun i _ hi => hother i (by omega)
  have hback : t.bufRange (k + 1) b = s.bufRange (k + 1) b := State.bufRange_congr fun i hi _ => hother i (by omega)
  rw [t.bufRange_eq_append hak hkb, s.bufRange_eq_append hak hkb, hfront, hback]
  exact crcDetectsASingleByteError _ _ _ _ hk

/-- A frame that passes VERIFY fails it where one byte of its data is another: the CRC field stands behind the data, so
it is still the frame's, and the checksum is not. -/
theorem verifyBody_of_corruptedByte {s t : State} {k : Nat} (hpass : (verifyBody s).state.phase = .decoding)
    (hsof : t.sofIdx = s.sofIdx) (hframeLen : t.frameLen = s.frameLen)
    (hlo : s.sofIdx.toNat + 2 ≤ k) (hhi : k < s.sofIdx.toNat + s.frameLen.toNat - 4)
    (hk : t.ibufByte k ≠ s.ibufByte k) (hother : ∀ j, j ≠ k → t.ibufByte j = s.ibufByte j) :
    verifyBody t = .ended (t.checked.raiseFailure .crcMismatch) := by
  obtain ⟨hlen, hcrc⟩ := verifyBody_decoding hpass
  have hfield : t.crcField = s.crcField := by
    rw [State.crcField, State.crcField, State.memRead2, State.memRead2, hsof, hframeLen, hother _ (by omega),
      hother _ (by omega)]
  have hdata : crc16 t.crcData ≠ crc16 s.crcData := by
    rw [State.crcData, State.crcData, hsof, hframeLen]
    exact crc16_bufRange_ne hlo hhi hk hother
  refine verifyBody_of_mismatch (hframeLen ▸ hlen) ?_
  rwa [hfield, ← hcrc]

/-- Settles O35: VERIFY of the corrupted state finds the CRCs different. -/
theorem verifyCatchesASingleByteCorruption : Obligations.VerifyCatchesASingleByteCorruption := by
  intro s t k m _ hp hexec hdec hlo hhi hk hother
  rw [exec_verify_of_verifying hp] at hexec
  cases hexec
  refine ⟨_, exec_verify_of_verifying hp, ?_⟩
  rw [verifyBody_of_corruptedByte (t := s.withIbuf m s.draw) hdec rfl rfl hlo hhi hk hother]
  exact ⟨rfl, rfl⟩

/-! ### VERIFY -/

/-- The two bytes of a frame's CRC field, the more significant first (R147). -/
theorem State.crcField_eq_bytes {s : State} (hlen : 6 ≤ s.frameLen.toNat) :
    s.crcField = s.ibufByte (s.sofIdx.toNat + s.frameLen.toNat - 4) ++
      s.ibufByte (s.sofIdx.toNat + s.frameLen.toNat - 3) := by
  rw [State.crcField, State.memRead2,
    show s.sofIdx.toNat + s.frameLen.toNat - 4 + 1 = s.sofIdx.toNat + s.frameLen.toNat - 3 by omega]

/-- A held frame that passes, and its payload view. -/
theorem exec_verify_of_match {s : State} (hp : s.phase = .verifying) (hlen : 6 ≤ s.frameLen.toNat)
    (hcrc : crc16 s.crcData = s.crcField) :
    exec .verify s = .next (s.checked.holdPayload (s.stripPayload s.sofIdx.toNat s.frameLen.toNat).1
      (s.stripPayload s.sofIdx.toNat s.frameLen.toNat).2) := by
  rw [exec_verify_of_verifying hp, verifyBody_of_match hlen hcrc, StageResult.state_goesOn]

/-- Settles O32: the sequence check, and the three outcomes of the body. -/
theorem verifyChecksAndStrips : Obligations.VerifyChecksAndStrips := by
  intro s
  refine ⟨exec_regWrite_commandWord .verify s, fun hp => ?_, fun hp hlen => ?_, fun hp hlen => ?_⟩
  · rw [exec_eq_next, afterInstr, cmdVerify, if_neg hp]
    rfl
  · rw [exec_verify_of_verifying hp, verifyBody_of_short hlen]
    rfl
  · rintro base len retrieved computed st e0 rfl rfl rfl rfl rfl rfl
    rw [← State.crcField_eq_bytes hlen]
    refine ⟨fun hcrc => ?_, fun hcrc => ?_⟩
    · rw [exec_verify_of_verifying hp, verifyBody_of_mismatch hlen hcrc]
      rfl
    · exact exec_verify_of_match hp hlen hcrc

/-! ### The payload under the profiles of the spec -/

/-- The slice where HDR_END and TAIL_TRIM lie within the frame; its length is 0 where the bounds cross (R146). -/
theorem State.stripPayload_of_le {s : State} {base len : Nat} (hhdr : s.hdrEnd.toNat ≤ len)
    (htail : s.tailTrim.toNat ≤ len) :
    s.stripPayload base len = (base + s.hdrEnd.toNat, len - s.tailTrim.toNat - s.hdrEnd.toNat) := by
  simp only [State.stripPayload, if_pos htail, Prod.mk.injEq]
  omega

/-- Settles O33: the slice of HDR_END 5 and TAIL_TRIM 4, whose bounds cross below L = 9. -/
theorem resetProfileSlice : Obligations.ResetProfileSlice := by
  intro s hp hhdr htail hlen hfit hcrc
  have hfive : s.hdrEnd.toNat = 5 := by rw [hhdr]; rfl
  have hfour : s.tailTrim.toNat = 4 := by rw [htail]; rfl
  have hexec := exec_verify_of_match hp hlen hcrc
  rw [State.stripPayload_of_le (by omega) (by omega), hfive, hfour] at hexec
  refine ⟨_, hexec, rfl, index16_toNat (by omega), fun hnine => ?_, fun hcross => ?_⟩
  · rw [State.holdPayload_payloadOff, State.holdPayload_payloadLen, index16_toNat (by omega),
      index16_toNat (by omega), show s.sofIdx.toNat + 5 + (s.frameLen.toNat - 4 - 5) =
        s.sofIdx.toNat + s.frameLen.toNat - 4 by omega]
    rfl
  · rw [State.holdPayload_payloadLen, show s.frameLen.toNat - 4 - 5 = 0 by omega]
    rfl

/-- Under each reading the frame is its header, 56 payload bytes and its tail (R151). -/
theorem P24Slice.frameLen_eq (slice : P24Slice) :
    slice.frameLen = slice.registers.1.toNat + 56 + slice.registers.2.toNat := by
  cases slice <;> rfl

theorem P24Slice.registers_le (slice : P24Slice) :
    slice.registers.1.toNat ≤ 6 ∧ slice.registers.2.toNat ≤ 6 := by
  cases slice <;> decide

/-- Settles O34: the payload is what the header and the tail leave of the frame. -/
theorem p24SliceFrameLengths : Obligations.P24SliceFrameLengths := by
  intro slice s hp hhdr htail hlen hcrc
  refine ⟨_, exec_verify_of_match hp hlen hcrc, rfl, ?_⟩
  have hfit := s.frameLen.isLt
  obtain ⟨hhdrLe, htailLe⟩ := slice.registers_le
  rw [← hhdr] at hhdrLe
  rw [← htail] at htailLe
  rw [State.stripPayload_of_le (by omega) (by omega), State.holdPayload_payloadLen, slice.frameLen_eq, ← hhdr, ← htail,
    ← BitVec.toNat_inj, index16_toNat (by omega), BitVec.toNat_ofNat]
  omega

end Sys2Proof.Machine
end

section
/-! CRC: the checksum of a range of the valid bytes, and where it agrees with VERIFY (R160, R161). -/

namespace Sys2Proof.Machine

open Sys2Proof

/-! ### The outcome of CRC, by its range -/

section Outcome

variable {s : State}

theorem cmdCrc_of_outside (h : s.ibufLen.toNat < s.crcArgStart.toNat + s.crcArgLen.toNat) :
    cmdCrc s = s.raiseCmdError .range := by
  obtain ⟨-, hc⟩ | ⟨hle, -⟩ := cmdCrc_cases s
  · exact hc
  · omega

theorem cmdCrc_of_inside (h : s.crcArgStart.toNat + s.crcArgLen.toNat ≤ s.ibufLen.toNat) :
    cmdCrc s = { s with
      cmdStatus := .ok
      crcResult := crc16 (s.bufRange s.crcArgStart.toNat (s.crcArgStart.toNat + s.crcArgLen.toNat)) } := by
  obtain ⟨hlt, -⟩ | ⟨-, hc⟩ := cmdCrc_cases s
  · omega
  · exact hc

end Outcome

/-! ### CRC -/

theorem exec_crc (s : State) : exec .crc s = .next (cmdCrc s) := exec_eq_next .crc s

/-- Settles O36: the two outcomes of CRC. -/
theorem crcCommandResult : Obligations.CrcCommandResult := by
  intro s
  refine ⟨exec_regWrite_commandWord .crc s, fun hout => ?_, fun hin => ?_⟩
  · rw [exec_crc, cmdCrc_of_outside hout]
    rfl
  · rw [exec_crc, cmdCrc_of_inside hin]

/-- CRC leaves STATE and the result group, so a held view stays (R160, R161). -/
theorem cmdCrc_sameResults (s : State) : s.SameResults (cmdCrc s) := by
  obtain ⟨-, h⟩ | ⟨-, h⟩ := cmdCrc_cases s
  · simp [h, State.SameResults]
  · simp [h, State.SameResults]

/-- VERIFY writes the checksum of the frame's data, whether or not it is the frame's CRC (R145). -/
theorem verifyBody_crcComputed {s : State} (hlen : 6 ≤ s.frameLen.toNat) :
    (verifyBody s).state.crcComputed = crc16 s.crcData := by
  obtain ⟨hlt, -⟩ | ⟨-, -, h⟩ | ⟨-, -, h⟩ := verifyBody_cases s
  · omega
  · simp [h]
  · simp [h]

/-- CRC over the data of a held frame, which ends within IBUF_LEN (R161). -/
theorem cmdCrc_crcData {s : State} (hinv : s.Inv) (hp : s.phase = .verifying) (hlen : 6 ≤ s.frameLen.toNat)
    (hstart : s.crcArgStart.toNat = s.sofIdx.toNat + 2) (hcount : s.crcArgLen.toNat = s.frameLen.toNat - 6) :
    (cmdCrc s).crcResult = crc16 s.crcData := by
  obtain ⟨⟨horder, hframeLen, hend⟩, -⟩ := hinv.frameView (.inl hp)
  rw [cmdCrc_of_inside (by omega), State.crcData, hstart,
    show s.sofIdx.toNat + 2 + s.crcArgLen.toNat = s.sofIdx.toNat + s.frameLen.toNat - 4 by omega]

/-- Settles O37: the empty range, the exact sum, the frame rule of CRC, and the range of a frame's data. -/
theorem crcCommandCornerCases : Obligations.CrcCommandCornerCases := by
  intro s
  refine ⟨cmdCrc s, exec_crc s, fun hzero hin => ?_, fun hzero hout => ?_, fun hstart hcount => ?_,
    cmdCrc_sameResults s, fun hinv hp hlen hstart hcount => ?_⟩
  · rw [cmdCrc_of_inside (by simpa [hzero] using hin)]
    simp [hzero, State.bufRange, crcInit]
  · rw [cmdCrc_of_outside (by simpa [hzero] using hout)]
    rfl
  · have hsum : s.crcArgStart.toNat + s.crcArgLen.toNat = 65535 + 65535 := by rw [hstart, hcount]; rfl
    have hfit := s.ibufLen.isLt
    rw [cmdCrc_of_outside (by omega)]
    rfl
  · refine ⟨_, exec_verify_of_verifying hp, ?_⟩
    rw [cmdCrc_crcData hinv hp hlen hstart hcount, verifyBody_crcComputed hlen]

end Sys2Proof.Machine
end

section
/-! A reading comes from a verified frame only (R145, R170 to R173). -/

namespace Sys2Proof.Machine

open Sys2Proof

/-! ### What stands behind DECODE -/

/-- DECODE ends in READY only where the profile fits the field file and the payload (R170). -/
theorem decodeBody_ready {s : State} (h : (decodeBody s).state.phase = .ready) :
    s.payloadLen.toNat = 2 * (s.vcount.toNat + s.tcount.toNat) ∧ s.vcount.toNat + s.tcount.toNat ≤ s.cfg.fieldCap ∧
    (decodeBody s).state = (s.setCmdStatus .ok).holdReading (s.payloadFields (s.vcount.toNat + s.tcount.toNat)) := by
  obtain ⟨-, hd⟩ | ⟨-, -, hd⟩ | ⟨hcap, hlen, hd⟩ := decodeBody_cases s
  · simp [hd] at h
  · simp [hd] at h
  · exact ⟨hlen, hcap, by rw [hd, StageResult.state_goesOn]⟩

/-- A DECODE that ends with CMD_STATUS = OK was not rejected, so it has run (R205). -/
theorem cmdDecode_ok {s : State} (hok : (cmdDecode s).cmdStatus = .ok) :
    s.phase = .decoding ∧ cmdDecode s = (decodeBody s).state := by
  by_cases hp : s.phase = .decoding
  · exact ⟨hp, if_pos hp⟩
  · simp [cmdDecode, hp] at hok

theorem extractBody_ended {s t : State} (h : extractBody s = .ended t) : t.phase = .failed := by
  obtain ⟨-, hx⟩ | ⟨sof, -, -, hx⟩ | ⟨sof, eof, -, -, hx⟩ := extractBody_cases s <;> cases hx.symm.trans h <;> rfl

theorem verifyBody_ended {s t : State} (h : verifyBody s = .ended t) : t.phase = .failed := by
  obtain ⟨-, hv⟩ | ⟨-, -, hv⟩ | ⟨-, -, hv⟩ := verifyBody_cases s <;> cases hv.symm.trans h <;> rfl

/-- A CYCLE that ends in READY has run DECODE on the payload view that its VERIFY held (R202). -/
theorem cmdCycle_ready {s : State} (hinv : s.Inv) (hready : (cmdCycle s).phase = .ready) :
    ∃ u : State, s.StageFrame u ∧ u.Inv ∧ u.phase = .decoding ∧ cmdCycle s = (decodeBody u).state := by
  obtain ⟨t, hx, h⟩ | ⟨t, u, -, hv, h⟩ | ⟨t, u, hx, hv, h⟩ := cmdCycle_cases s
  · simp [h, extractBody_ended hx] at hready
  · simp [h, verifyBody_ended hv] at hready
  · have hextract := extractBody_reaches hinv.inputsFit
    have hextractFrame := extractBody_stageFrame s
    rw [hx] at hextract hextractFrame
    have hverify := verifyBody_reaches hextract.1 hextract.2
    have hverifyFrame := hextractFrame.trans (verifyBody_stageFrame t)
    rw [hv] at hverify hverifyFrame
    exact ⟨u, hverifyFrame, hverify.1, hverify.2, h⟩

/-- Either command reaches READY from a held payload view, with the inputs as they were. -/
theorem exists_decoding_of_ready {i : Instr} {s t : State} (hinv : s.Inv) (hi : i ∈ [Instr.decode, .cycle])
    (hexec : exec i s = .next t) (hok : t.cmdStatus = .ok) (hready : t.phase = .ready) :
    ∃ u : State, s.StageFrame u ∧ u.Inv ∧ u.phase = .decoding ∧ t = (decodeBody u).state := by
  rw [exec_eq_next] at hexec
  cases hexec
  simp only [List.mem_cons, List.not_mem_nil, or_false] at hi
  obtain rfl | rfl := hi
  · obtain ⟨hp, hd⟩ := cmdDecode_ok hok
    exact ⟨s, .refl s, hinv, hp, hd⟩
  · exact cmdCycle_ready hinv hready

/-! ### The fields of a held reading -/

theorem State.holdReading_fieldAt_payload {s : State} {n k : Nat} (hcap : n ≤ s.cfg.fieldCap) (hk : k < n) :
    (s.holdReading (s.payloadFields n)).fieldAt k = s.memRead2 (s.payloadOff.toNat + 2 * k) := by
  have hlt : k < (s.payloadFields n).length := by simpa using hk
  rw [State.fieldAt, State.holdReading_cfg, if_pos (hk.trans_le hcap), State.holdReading_field,
    List.getD_append _ _ _ _ hlt, List.getD_eq_getElem _ _ hlt, State.payloadFields_getElem]

theorem State.holdReading_fieldAt_beyond {s : State} {n k : Nat} (hclear : s.ReadingCleared) (hk : n ≤ k) :
    (s.holdReading (s.payloadFields n)).fieldAt k = 0#16 := by
  obtain ⟨-, -, -, -, hfield⟩ := hclear
  have hle : (s.payloadFields n).length ≤ k := by simpa using hk
  rw [State.fieldAt, State.holdReading_field, List.getD_append_right _ _ _ _ hle, hfield]
  simp

/-- Settles O53: the invariant of the held payload view says that its frame is verified, and DECODE keeps that view. -/
theorem readyComesFromAVerifiedFrame : Obligations.ReadyComesFromAVerifiedFrame := by
  intro i s t hinv hi hexec hok hready
  obtain ⟨u, hframe, huinv, hp, rfl⟩ := exists_decoding_of_ready hinv hi hexec hok hready
  obtain ⟨hlen, hcap, hd⟩ := decodeBody_ready hready
  obtain ⟨hwithin, hmark⟩ := huinv.frameView (.inr hp)
  obtain ⟨hagree, hsix, -, -⟩ := huinv.payload (.inl hp)
  obtain ⟨hretrieved, hcomputed⟩ := huinv.verified hp
  obtain ⟨⟨-, -, -, -, hv, ht, -, -, hve, hte, -⟩, -⟩ := hframe
  rw [hd]
  refine ⟨hwithin, hmark, hsix, ?_, hretrieved, ?_, hv, ht, hve, hte, hlen, fun k hk => ?_, fun k hk => ?_⟩
  · exact hcomputed.symm.trans (hagree.symm.trans hretrieved)
  · exact hagree.symm.trans hretrieved
  · exact State.holdReading_fieldAt_payload (s := u.setCmdStatus .ok) hcap hk
  · exact State.holdReading_fieldAt_beyond (s := u.setCmdStatus .ok) (huinv.noReading (by simp [hp])) hk

end Sys2Proof.Machine
end

section
/-! DECODE: the big-endian fields of the payload, and the reading they make (R170 to R173). -/

namespace Sys2Proof.Machine

open Sys2Proof

/-! ### The outcome of DECODE, by its checks -/

section Outcome

variable {s : State}

theorem decodeBody_of_invalidProfile (hcap : s.cfg.fieldCap < s.vcount.toNat + s.tcount.toNat) :
    decodeBody s = .ended ((s.setCmdStatus .ok).raiseFailure .profileInvalid) := by
  obtain ⟨-, h⟩ | ⟨hle, -⟩ | ⟨hle, -⟩ := decodeBody_cases s
  · exact h
  · omega
  · omega

theorem decodeBody_of_otherLength (hcap : s.vcount.toNat + s.tcount.toNat ≤ s.cfg.fieldCap)
    (hlen : s.payloadLen.toNat ≠ 2 * (s.vcount.toNat + s.tcount.toNat)) :
    decodeBody s = .ended ((s.setCmdStatus .ok).raiseFailure .payloadLengthMismatch) := by
  obtain ⟨hlt, -⟩ | ⟨-, -, h⟩ | ⟨-, heq, -⟩ := decodeBody_cases s
  · omega
  · exact h
  · exact absurd heq hlen

theorem decodeBody_of_match (hcap : s.vcount.toNat + s.tcount.toNat ≤ s.cfg.fieldCap)
    (hlen : s.payloadLen.toNat = 2 * (s.vcount.toNat + s.tcount.toNat)) :
    decodeBody s = .goesOn ((s.setCmdStatus .ok).holdReading (s.payloadFields (s.vcount.toNat + s.tcount.toNat))) := by
  obtain ⟨hlt, -⟩ | ⟨-, hne, -⟩ | ⟨-, -, h⟩ := decodeBody_cases s
  · omega
  · exact absurd hlen hne
  · exact h

theorem exec_decode_of_decoding (hp : s.phase = .decoding) : exec .decode s = .next (decodeBody s).state := by
  rw [exec_eq_next, afterInstr, cmdDecode, if_pos hp]

end Outcome

/-! ### The field file of a reading -/

theorem State.holdReading_field_payload {s : State} {n i : Nat} (hi : i < n) :
    (s.holdReading (s.payloadFields n)).field[i]? = some (s.memRead2 (s.payloadOff.toNat + 2 * i)) := by
  have hlt : i < (s.payloadFields n).length := by simpa using hi
  rw [State.holdReading_field, List.getElem?_append_left hlt, List.getElem?_eq_getElem hlt, State.payloadFields_getElem]

theorem State.holdReading_field_beyond {s : State} {l : List Word} {i : Nat} (hi : l.length ≤ i) :
    (s.holdReading l).field[i]? = s.field[i]? := by
  rw [State.holdReading_field, List.getElem?_append_right hi, List.getElem?_drop, Nat.add_sub_cancel' hi]

/-- Settles O38: the sequence check, the two failures in their order, and the reading. -/
theorem decodeWritesTheReading : Obligations.DecodeWritesTheReading := by
  rintro s n rfl
  refine ⟨exec_regWrite_commandWord .decode s, fun hp => ?_, fun hp hcap => ?_, fun hp hcap hlen => ?_,
    fun hp hcap hlen => ?_⟩
  · rw [exec_eq_next, afterInstr, cmdDecode, if_neg hp]
    rfl
  · rw [exec_decode_of_decoding hp, decodeBody_of_invalidProfile hcap]
    rfl
  · rw [exec_decode_of_decoding hp, decodeBody_of_otherLength hcap hlen]
    rfl
  · refine ⟨(s.holdReading (s.payloadFields (s.vcount.toNat + s.tcount.toNat))).field, ?_,
      fun i hi => State.holdReading_field_payload hi, fun i hi => State.holdReading_field_beyond (by simpa using hi)⟩
    rw [exec_decode_of_decoding hp, decodeBody_of_match hcap hlen]
    rfl

end Sys2Proof.Machine
end

section
/-! The reading of a READY block: signed fields, their classes and scaled values, and what keeps them (R172 to R182). -/

namespace Sys2Proof.Machine

open Sys2Proof

/-! ### The signed value of a field -/

/-- `sint16` is the two's-complement value of the library (R10). -/
theorem sint16_eq_toInt (v : Word) : sint16 v = v.toInt := (BitVec.toInt_eq_msb_cond v).symm

/-- Settles O39: the signed value of an append is that of its high part, shifted, and the low part. -/
theorem fieldIsBigEndianSigned : Obligations.FieldIsBigEndianSigned := by
  intro hi lo
  have happend : (hi ++ lo).toInt = 2 ^ 8 * hi.toInt + lo.toNat := BitVec.toInt_append
  rw [sint16_eq_toInt, happend]
  omega

theorem sint16_bounds (v : Word) : -32768 ≤ sint16 v ∧ sint16 v ≤ 32767 := by
  have hlow : -2 ^ 15 ≤ v.toInt := v.le_toInt
  have hhigh : v.toInt < 2 ^ 15 := v.toInt_lt
  rw [sint16_eq_toInt]
  omega

/-! ### The scaler -/

theorem State.scaleExponent_voltage {s : State} {i : Nat} (hi : i < s.rdVcount.toNat) :
    s.scaleExponent i = s.rdVexp.toNat := if_pos hi

theorem State.scaleExponent_temperature {s : State} {i : Nat} (hi : s.rdVcount.toNat ≤ i) :
    s.scaleExponent i = s.rdTexp.toNat := if_neg (not_lt.2 hi)

theorem State.scaled?_of_ready {s : State} {i : Nat} (hp : s.phase = .ready)
    (hi : i < s.rdVcount.toNat + s.rdTcount.toNat) :
    s.scaled? i = some (((s.fieldAt i).toInt : Rat) / 10 ^ s.scaleExponent i) := by
  rw [State.scaled?, if_pos ⟨hp, hi⟩, sint16_eq_toInt]

theorem State.eq_of_scaled? {s : State} {i : Nat} {q : Rat} (h : s.scaled? i = some q) :
    q = (sint16 (s.fieldAt i) : Rat) / 10 ^ s.scaleExponent i := by
  rw [State.scaled?] at h
  split at h
  · exact (Option.some.inj h).symm
  · cases h

/-- FIELD past the reading is 0 (R47). -/
theorem State.Inv.fieldAt_beyond {s : State} (h : s.Inv) {i : Nat}
    (hi : s.rdVcount.toNat + s.rdTcount.toNat ≤ i) : s.fieldAt i = 0#16 := by
  by_cases hcap : i < s.cfg.fieldCap
  · have hlt : i < s.field.length := h.fieldLength ▸ hcap
    rw [State.fieldAt, if_pos hcap, List.getD_eq_getElem _ _ hlt]
    refine h.unusedFields _ (List.mem_drop_iff_getElem.2
      ⟨i - (s.rdVcount.toNat + s.rdTcount.toNat), by omega, by simp only [Nat.add_sub_cancel' hi]⟩)
  · exact if_neg hcap

/-- Settles O40: the three ranges of i, and the exponent of each. -/
theorem scaledFieldValue : Obligations.ScaledFieldValue := by
  intro s i hp
  refine ⟨fun hi => ⟨if_pos hi, ?_⟩, fun hi hlt => ⟨?_, ?_⟩, fun hi => ⟨?_, fun hinv => hinv.fieldAt_beyond hi⟩⟩
  · rw [State.scaled?_of_ready hp (by omega), State.scaleExponent_voltage hi]
  · rw [State.fieldClass, if_neg (not_lt.2 hi), if_pos hlt]
  · rw [State.scaled?_of_ready hp hlt, State.scaleExponent_temperature hi]
  · rw [State.fieldClass, if_neg (by omega), if_neg (by omega)]

/-- The range of a signed field, scaled by d = 10^k (R182). -/
theorem State.scaled?_bounds {s : State} {i : Nat} {q d : Rat} (h : s.scaled? i = some q)
    (hd : 10 ^ s.scaleExponent i = d) : -32768 / d ≤ q ∧ q ≤ 32767 / d := by
  obtain ⟨hlow, hhigh⟩ := sint16_bounds (s.fieldAt i)
  rw [State.eq_of_scaled? h, ← hd]
  constructor
  · gcongr
    exact_mod_cast hlow
  · gcongr
    exact_mod_cast hhigh

/-- Settles O41: 10^k is 1000 for k = 3 and 10 for k = 1. -/
theorem scaledFieldRange : Obligations.ScaledFieldRange := by
  intro s i q hq
  refine ⟨fun hi hexp => State.scaled?_bounds hq ?_, fun hi hexp => State.scaled?_bounds hq ?_⟩
  · rw [State.scaleExponent_voltage hi, hexp]
    norm_num
  · rw [State.scaleExponent_temperature hi, hexp]
    norm_num

/-! ### A held reading -/

section SameReading

variable {s t : State} (hres : s.SameResults t) (hcfg : t.cfg = s.cfg)

include hres

theorem State.SameResults.fieldClass_eq (k : Nat) : t.fieldClass k = s.fieldClass k := by
  obtain ⟨-, -, -, -, -, -, -, -, -, hv, ht, -⟩ := hres
  rw [State.fieldClass, State.fieldClass, hv, ht]

include hcfg

theorem State.SameResults.fieldAt_eq (k : Nat) : t.fieldAt k = s.fieldAt k := by
  obtain ⟨-, -, -, -, -, -, -, -, -, -, -, -, -, hfield⟩ := hres
  rw [State.fieldAt, State.fieldAt, hfield, hcfg]

theorem State.SameResults.scaled?_eq (k : Nat) : t.scaled? k = s.scaled? k := by
  have hat := hres.fieldAt_eq hcfg k
  obtain ⟨hp, -, -, -, -, -, -, -, -, hv, ht, hve, hte, -⟩ := hres
  simp only [State.scaled?, State.scaleExponent, hat, hp, hv, ht, hve, hte]

end SameReading

/-- Without a view there is nothing for the invalidation to drop (R74). -/
theorem State.loadIbuf_invalidate_sameResults {s : State} (h : ¬ (s.phase = .verifying ∨ s.phase = .decoding))
    (m : Memory) (n : Word) : s.SameResults (s.loadIbuf m n).invalidate := by
  rw [State.loadIbuf_invalidate_unheld h]
  simp [State.SameResults, State.loadIbuf]

/-- What the host writes outside CMD is no part of the result group, and drops no reading (R73, R74, R255). -/
theorem afterInstr_hostWrite_sameResults {s : State} {i : Instr} (h : ¬ (s.phase = .verifying ∨ s.phase = .decoding))
    (hi : (∃ r v, r ≠ 0x00#8 ∧ i = .regWrite r v) ∨ ∃ a b, i = .bufWrite a b) : s.SameResults (afterInstr i s) := by
  obtain ⟨r, v, hr, rfl⟩ | ⟨a, b, rfl⟩ := hi
  · rw [afterInstr]
    obtain ⟨hcmd, -⟩ | hw | hw := s.writeReg_cases r v
    · exact absurd hcmd hr
    · rw [hw]
      exact s.loadIbuf_invalidate_sameResults h _ _
    · rw [hw]
      simp [State.SameResults, State.withHostSide]
  · by_cases ha : a.toNat < s.cfg.bufCap
    · rw [afterInstr_bufWrite_below ha]
      exact s.loadIbuf_invalidate_sameResults h _ _
    · rw [afterInstr_bufWrite_above (not_lt.1 ha)]
      simp [State.SameResults]

/-- Settles O42: a reading is a part of STATE, the result group and the configuration, and the write keeps them. -/
theorem heldReadingIsLatched : Obligations.HeldReadingIsLatched := by
  intro s i hp hi
  have hres : s.SameResults (afterInstr i s) := afterInstr_hostWrite_sameResults (by simp [hp]) hi
  have hcfg := afterInstr_cfg i s
  have hphase : (afterInstr i s).phase = s.phase := hres.1
  exact ⟨_, exec_eq_next i s, hphase.trans hp,
    fun k => ⟨hres.fieldAt_eq hcfg k, hres.fieldClass_eq k, hres.scaled?_eq hcfg k⟩⟩

end Sys2Proof.Machine
end

section
/-! CYCLE as its three stages in turn, and the good polling cycle of a wire frame (R202, R253). -/

namespace Sys2Proof.Machine

open Sys2Proof

/-! ### The stages that go on -/

theorem extractBody_goesOn {s t : State} (h : extractBody s = .goesOn t) : t.phase = .verifying := by
  obtain ⟨-, hx⟩ | ⟨sof, -, -, hx⟩ | ⟨sof, eof, -, -, hx⟩ := extractBody_cases s <;> cases hx.symm.trans h
  rfl

theorem verifyBody_goesOn {s t : State} (h : verifyBody s = .goesOn t) : t.phase = .decoding := by
  obtain ⟨-, hv⟩ | ⟨-, -, hv⟩ | ⟨-, -, hv⟩ := verifyBody_cases s <;> cases hv.symm.trans h
  rfl

/-! ### A stage that runs is accepted -/

theorem extractBody_cmdStatus (s : State) : (extractBody s).state.cmdStatus = .ok := by
  obtain ⟨-, h⟩ | ⟨sof, -, -, h⟩ | ⟨sof, eof, -, -, h⟩ := extractBody_cases s <;> simp [h]

theorem verifyBody_cmdStatus (s : State) : (verifyBody s).state.cmdStatus = .ok := by
  obtain ⟨-, h⟩ | ⟨-, -, h⟩ | ⟨-, -, h⟩ := verifyBody_cases s <;> simp [h]

theorem decodeBody_cmdStatus (s : State) : (decodeBody s).state.cmdStatus = .ok := by
  obtain ⟨-, h⟩ | ⟨-, -, h⟩ | ⟨-, -, h⟩ := decodeBody_cases s <;> simp [h]

/-- CYCLE ends in one of the stage bodies (R202). -/
theorem cmdCycle_cmdStatus (s : State) : (cmdCycle s).cmdStatus = .ok := by
  obtain ⟨t, hx, h⟩ | ⟨t, u, -, hv, h⟩ | ⟨t, u, -, -, h⟩ := cmdCycle_cases s <;> rw [h]
  · simpa [hx] using extractBody_cmdStatus s
  · simpa [hv] using verifyBody_cmdStatus t
  · exact decodeBody_cmdStatus u

/-! ### CYCLE -/

theorem exec_cycle (s : State) : exec .cycle s = .next (cmdCycle s) := exec_eq_next .cycle s

/-- Settles O22: CYCLE ends in one of its three stages, and the single commands run the same bodies. -/
theorem cycleIsTheThreeStages : Obligations.CycleIsTheThreeStages := by
  intro s
  refine ⟨exec_regWrite_commandWord .cycle s, _, exec_cycle s, cmdCycle_cmdStatus s, _, exec_extract s, ?_⟩
  obtain ⟨t, hx, h⟩ | ⟨t, u, hx, hv, h⟩ | ⟨t, u, hx, hv, h⟩ := cmdCycle_cases s <;> rw [h, hx]
  · exact ⟨fun _ => rfl, fun hp => absurd (extractBody_ended hx) hp⟩
  · have ht := extractBody_goesOn hx
    refine ⟨fun hp => absurd (ht.symm.trans hp) (by decide), fun _ => ⟨u, ?_, fun _ => rfl,
      fun hp => absurd (verifyBody_ended hv) hp⟩⟩
    rw [StageResult.state_goesOn, exec_verify_of_verifying ht, hv, StageResult.state_ended]
  · have ht := extractBody_goesOn hx
    have hu := verifyBody_goesOn hv
    refine ⟨fun hp => absurd (ht.symm.trans hp) (by decide), fun _ => ⟨u, ?_,
      fun hp => absurd (hu.symm.trans hp) (by decide), fun _ => exec_decode_of_decoding hu⟩⟩
    rw [StageResult.state_goesOn, exec_verify_of_verifying ht, hv, StageResult.state_goesOn]

/-- CYCLE reaches DECODE when EXTRACT and VERIFY go on (R202). -/
theorem cmdCycle_of_goesOn {s t u : State} (hx : extractBody s = .goesOn t) (hv : verifyBody t = .goesOn u) :
    cmdCycle s = (decodeBody u).state := by
  obtain ⟨t', hx', -⟩ | ⟨t', u', hx', hv', -⟩ | ⟨t', u', hx', hv', h⟩ := cmdCycle_cases s
  · cases hx.symm.trans hx'
  · cases hx.symm.trans hx'
    cases hv.symm.trans hv'
  · cases hx.symm.trans hx'
    cases hv.symm.trans hv'
    exact h

/-! ### The payload of a wire frame -/

section Payload

variable {s : State} {header payload : List Byte}

theorem State.Loaded.ibufByte_payload (h : s.Loaded (wireFrame (header ++ payload))) {j : Nat}
    (hj : j < payload.length) : s.ibufByte (2 + header.length + j) = payload[j] := by
  have hrange := h.bufRange_payload
  have hlt : j < (s.bufRange (2 + header.length) (2 + header.length + payload.length)).length := by
    simpa using hj
  rw [← State.bufRange_getElem s _ _ j hlt]
  exact List.getElem_of_eq hrange hlt

/-- Pair k of the payload, where DECODE reads field k (R172). -/
theorem State.Loaded.memRead2_payload (h : s.Loaded (wireFrame (header ++ payload))) {k : Nat}
    (hk : 2 * k + 1 < payload.length) :
    s.memRead2 (2 + header.length + 2 * k) = payload[2 * k] ++ payload[2 * k + 1] := by
  rw [State.memRead2, h.ibufByte_payload (by omega), Nat.add_assoc, h.ibufByte_payload hk]

end Payload

/-! ### The good polling cycle -/

theorem State.Loaded.of_sameInputs {s t : State} {bytes : List Byte} (h : s.Loaded bytes) (hst : s.SameInputs t) :
    t.Loaded bytes := by
  obtain ⟨hlen, hbytes⟩ := h
  have ⟨_, _, _, hibufLen, _⟩ := hst
  exact ⟨by rw [hibufLen, hlen], fun k hk => (hst.ibufByte_eq k).trans (hbytes k hk)⟩

/-- CYCLE on a loaded wire frame runs DECODE on a view of its payload (R146, R202). -/
theorem cmdCycle_wireFrame {s : State} {header payload : List Byte} (hload : s.Loaded (wireFrame (header ++ payload)))
    (hno : NoEofInside (header ++ payload ++ be16 (crc16 (header ++ payload))))
    (hhdr : s.hdrEnd.toNat = 2 + header.length) (htail : s.tailTrim = 4#16) :
    ∃ u : State, s.StageFrame u ∧ u.err = .none ∧ u.payloadOff.toNat = 2 + header.length ∧
      u.payloadLen.toNat = payload.length ∧ cmdCycle s = (decodeBody u).state := by
  have hbound := hload.wireFrame_length_lt
  rw [List.length_append] at hbound
  refine ⟨_, ?_, ?_, ?_, ?_, cmdCycle_of_goesOn (extractBody_wireFrame hload hno)
    (verifyBody_wireFrame hload.holdsWireFrame hhdr htail)⟩
  · simp
  · rfl
  · exact index16_toNat (by omega)
  · exact index16_toNat (by omega)

/-- Settles O56: the payload view has the length that the profile asks for, and DECODE reads its pairs. -/
theorem cycleDecodesAWireFrame : Obligations.CycleDecodesAWireFrame := by
  intro s header payload hload hno hhdr htail hlen hcap
  obtain ⟨u, hframe, herr, hoff, hplen, hcycle⟩ := cmdCycle_wireFrame hload hno hhdr htail
  have hfields := fun k => (hload.of_sameInputs hframe.1).memRead2_payload (k := k)
  obtain ⟨⟨hcfg, -, -, -, hv, ht, -, -, hve, hte, -⟩, -⟩ := hframe
  rw [← hv, ← ht] at hlen
  rw [← hv, ← ht, ← hcfg] at hcap
  rw [decodeBody_of_match hcap (hplen.trans hlen), StageResult.state_goesOn] at hcycle
  refine ⟨_, (exec_cycle s).trans (congrArg _ hcycle), rfl, rfl, herr, hv, ht, hve, hte, fun k hk => ?_⟩
  have hat := State.holdReading_fieldAt_payload (s := u.setCmdStatus .ok) (k := k) hcap (by omega)
  exact hat.trans (hoff ▸ hfields k hk)

end Sys2Proof.Machine
end

section
/-! The transition function of the pipeline state: what each transaction makes of STATE, and what leaves a rest state
(R200 to R205). -/

namespace Sys2Proof.Machine

open Sys2Proof

/-! ### NOP and CLEAR -/

/-- Settles O20: `cmdNop` is that update. -/
theorem nopOnlySetsOk : Obligations.NopOnlySetsOk :=
  fun s => ⟨rfl, exec_regWrite_commandWord .nop s⟩

/-- Settles O21: `State.toIdle` clears the result group by O15's update and sets STATE. -/
theorem clearReturnsToIdle : Obligations.ClearReturnsToIdle :=
  fun s => ⟨rfl, exec_regWrite_commandWord .clear s⟩

/-! ### A misordered stage -/

section Misordered

variable {s : State}

theorem cmdVerify_of_misordered (hp : s.phase ≠ .verifying) : cmdVerify s = s.raiseCmdError .sequence :=
  if_neg hp

theorem cmdDecode_of_misordered (hp : s.phase ≠ .decoding) : cmdDecode s = s.raiseCmdError .sequence :=
  if_neg hp

theorem exec_verify_of_misordered (hp : s.phase ≠ .verifying) :
    exec .verify s = .next (s.raiseCmdError .sequence) := by
  rw [exec_eq_next, afterInstr, cmdVerify_of_misordered hp]

theorem exec_decode_of_misordered (hp : s.phase ≠ .decoding) :
    exec .decode s = .next (s.raiseCmdError .sequence) := by
  rw [exec_eq_next, afterInstr, cmdDecode_of_misordered hp]

end Misordered

theorem cmdCrc_cmdStatus (s : State) : (cmdCrc s).cmdStatus = .range ∨ (cmdCrc s).cmdStatus = .ok := by
  obtain ⟨-, h⟩ | ⟨-, h⟩ := cmdCrc_cases s <;> simp [h]

/-- Settles O24: the sequence check rejects VERIFY and DECODE; NOP, CLEAR, EXTRACT and CYCLE end with OK, CRC with OK
or RANGE. -/
theorem misorderedStageOnlySetsSequence : Obligations.MisorderedStageOnlySetsSequence := by
  intro s
  refine ⟨exec_verify_of_misordered, exec_decode_of_misordered, fun i hi => ⟨_, exec_eq_next i s, ?_⟩⟩
  simp only [List.mem_cons, List.not_mem_nil, or_false] at hi
  obtain rfl | rfl | rfl | rfl | rfl := hi
  · simp [afterInstr, cmdExtract, extractBody_cmdStatus]
  · simp [afterInstr, cmdCycle_cmdStatus]
  · simp [afterInstr, cmdClear]
  · simp [afterInstr, cmdNop]
  · obtain h | h := cmdCrc_cmdStatus s <;> simp [afterInstr, h]

/-! ### STATE after a stage -/

theorem extractBody_phase (s : State) :
    (extractBody s).state.phase = .verifying ∨ ((extractBody s).state.phase = .failed ∧
      (extractBody s).state.err ∈ [Err.markerNotFoundSof, .markerNotFoundEof]) := by
  obtain ⟨-, h⟩ | ⟨sof, -, -, h⟩ | ⟨sof, eof, -, -, h⟩ := extractBody_cases s <;> simp [h]

theorem verifyBody_phase (s : State) :
    (verifyBody s).state.phase = .decoding ∨ ((verifyBody s).state.phase = .failed ∧
      (verifyBody s).state.err ∈ [Err.frameTooShort, .crcMismatch]) := by
  obtain ⟨-, h⟩ | ⟨-, -, h⟩ | ⟨-, -, h⟩ := verifyBody_cases s <;> simp [h]

theorem decodeBody_phase (s : State) :
    (decodeBody s).state.phase = .ready ∨ ((decodeBody s).state.phase = .failed ∧
      (decodeBody s).state.err ∈ [Err.payloadLengthMismatch, .profileInvalid]) := by
  obtain ⟨-, h⟩ | ⟨-, -, h⟩ | ⟨-, -, h⟩ := decodeBody_cases s <;> simp [h]

/-- A stage that ended the command has failed with an ERR, and DECODE that ran ended in READY or failed (R202). -/
theorem cmdCycle_phase (s : State) :
    (cmdCycle s).phase = .ready ∨ ((cmdCycle s).phase = .failed ∧ (cmdCycle s).err ≠ .none) := by
  obtain ⟨t, hx, h⟩ | ⟨t, u, -, hv, h⟩ | ⟨t, u, -, -, h⟩ := cmdCycle_cases s <;> rw [h]
  · have hphase := extractBody_phase s
    rw [hx] at hphase
    obtain hp | ⟨hp, herr⟩ := hphase
    · cases hp.symm.trans (extractBody_ended hx)
    · exact .inr ⟨hp, ne_of_mem_of_not_mem herr (by decide)⟩
  · have hphase := verifyBody_phase t
    rw [hv] at hphase
    obtain hp | ⟨hp, herr⟩ := hphase
    · cases hp.symm.trans (verifyBody_ended hv)
    · exact .inr ⟨hp, ne_of_mem_of_not_mem herr (by decide)⟩
  · exact (decodeBody_phase u).imp id fun ⟨hp, herr⟩ => ⟨hp, ne_of_mem_of_not_mem herr (by decide)⟩

/-! ### STATE after a host write -/

theorem State.loadIbuf_invalidate_phase (s : State) (m : Memory) (n : Word) :
    (s.loadIbuf m n).invalidate.phase = if s.phase = .verifying ∨ s.phase = .decoding then .idle else s.phase := by
  split
  · next h => rw [State.loadIbuf_invalidate_held h]
  · next h => rw [State.loadIbuf_invalidate_unheld h]; rfl

/-- Only CMD and IBUF_LEN have a write that changes STATE (R73). -/
theorem afterInstr_regWrite_phase {r : RegNum} (hcmd : r ≠ 0x00#8) (hlen : r ≠ 0x04#8) (s : State) (v : Word) :
    (afterInstr (.regWrite r v) s).phase = s.phase := by
  rw [afterInstr, State.writeReg]
  cases hr : RegName.ofNumber r with
  | none => rfl
  | some n =>
    obtain rfl := RegName.number_of_ofNumber hr
    cases n
    case cmd => exact absurd rfl hcmd
    case ibufLen => exact absurd rfl hlen
    all_goals rfl

/-- A command word that is not well formed has RSV ≠ 0 or a reserved OP (R103). -/
theorem illegal_of_not_wellFormed {v : Word} (h : (HostWord.cmd16 v).wellFormed = false) :
    v.extractLsb' 4 12 ≠ 0#12 ∨ 0x7 ≤ (v.extractLsb' 0 4).toNat := by
  simpa [HostWord.wellFormed, rsvIsZero, opIsDefined, imp_iff_not_or] using h

/-- Settles O23: one column of the table after the other. -/
theorem transitionTable : Obligations.TransitionTable := by
  intro s
  refine ⟨⟨_, exec_eq_next .nop s, rfl⟩, ⟨_, exec_eq_next .clear s, rfl⟩, ⟨_, exec_extract s, extractBody_phase s⟩,
    ?_, ?_, ⟨_, exec_cycle s, cmdCycle_phase s⟩, ⟨_, exec_crc s, (cmdCrc_sameResults s).1⟩, fun v hv => ?_,
    fun a b ha => ?_, fun v => ?_, fun r v hcmd hlen => ⟨_, exec_eq_next _ s, afterInstr_regWrite_phase hcmd hlen s v⟩⟩
  · split
    · next hp => exact ⟨_, exec_verify_of_verifying hp, verifyBody_phase s⟩
    · next hp => exact ⟨_, exec_verify_of_misordered hp, rfl, rfl⟩
  · split
    · next hp => exact ⟨_, exec_decode_of_decoding hp, decodeBody_phase s⟩
    · next hp => exact ⟨_, exec_decode_of_misordered hp, rfl, rfl⟩
  · obtain ⟨hwrite, -⟩ := illegalCommandWordOnlySetsIllegal v s (illegal_of_not_wellFormed hv)
    exact ⟨_, hwrite, rfl, rfl⟩
  · refine ⟨_, exec_eq_next _ s, ?_⟩
    rw [afterInstr_bufWrite_below ha, State.loadIbuf_invalidate_phase]
  · refine ⟨_, exec_eq_next _ s, ?_⟩
    rw [afterInstr_ibufLen, State.loadIbuf_invalidate_phase]

/-! ### What leaves a rest state -/

theorem State.unheld_of_rest {s : State} (h : s.phase = .ready ∨ s.phase = .failed) :
    ¬ (s.phase = .verifying ∨ s.phase = .decoding) := by
  obtain h | h := h <;> simp [h]

/-- In a rest state VERIFY and DECODE are rejected, and NOP and CRC never touch STATE (R204, R205). -/
theorem afterCommand_phase_of_rest {s : State} {c : Command} (hrest : s.phase = .ready ∨ s.phase = .failed)
    (hc : c ∉ [Command.clear, .extract, .cycle]) : (afterInstr c.instr s).phase = s.phase := by
  obtain ⟨hverify, hdecode⟩ := not_or.1 (State.unheld_of_rest hrest)
  cases c with
  | nop => rfl
  | verify => rw [Command.instr, afterInstr, cmdVerify_of_misordered hverify, State.raiseCmdError_phase]
  | decode => rw [Command.instr, afterInstr, cmdDecode_of_misordered hdecode, State.raiseCmdError_phase]
  | crc => exact (cmdCrc_sameResults s).1
  | clear | extract | cycle => exact absurd (by decide) hc

/-- The instructions that leave a rest state. -/
theorem mem_of_runsCommand_leaving {i : Instr} {c : Command} (hi : RunsCommand i c)
    (hc : c ∈ [Command.clear, .extract, .cycle]) :
    i ∈ [Instr.clear, .extract, .cycle, .regWrite 0x00#8 0x0001#16, .regWrite 0x00#8 0x0002#16,
      .regWrite 0x00#8 0x0005#16] := by
  simp only [List.mem_cons, List.not_mem_nil, or_false] at hc
  obtain rfl | rfl | rfl := hc <;> obtain rfl | rfl := hi <;> decide

/-- Settles O25: of the instructions only three commands leave a rest state, and a rest state holds no view for an
invalidation to drop. -/
theorem restStatesAreLeftByFourThings : Obligations.RestStatesAreLeftByFourThings := by
  intro s t hrest hstep hne
  obtain rfl | ⟨rest, hp, -⟩ | ⟨w, rest, i, hp, hd, rfl⟩ | ⟨v, rest, -, rfl⟩ := step_next_cases hstep
  · exact absurd rfl hne
  · exact .inl ⟨rest, hp⟩
  · refine .inr ⟨w, rest, i, hp, hd, ?_⟩
    obtain ⟨c, hc, hi⟩ | ⟨v, -, hi⟩ | ⟨m, n, hi, -⟩ | hi := afterInstr_cases i (s.take rest) <;> rw [hi] at hne
    · refine mem_of_runsCommand_leaving hc (not_not.1 fun hleave => hne ?_)
      exact afterCommand_phase_of_rest (s := s.take rest) hrest hleave
    · exact absurd rfl hne
    · refine absurd ?_ hne
      rw [State.loadIbuf_invalidate_phase]
      exact if_neg (State.unheld_of_rest hrest)
    · exact absurd rfl hne
  · exact absurd rfl hne

end Sys2Proof.Machine
end

section
/-! Errors: the record that a failure leaves (R221 to R225), when a command word is rejected (R222), and that no script
of transactions stops the block (R220, R238). -/

namespace Sys2Proof.Machine

open Sys2Proof

/-! ### An idle port and the two error entries -/

/-- Settles O7: the first branch of `step`. -/
theorem idlePortChangesNothing : Obligations.IdlePortChangesNothing := by
  intro s hport
  simp only [step, hport]

/-- Settles O16: `State.raiseFailure` and `State.raiseCmdError` are those updates. -/
theorem errorEntriesWriteTheirRecord : Obligations.ErrorEntriesWriteTheirRecord :=
  fun _ => ⟨fun _ => rfl, fun _ => rfl⟩

/-! ### A script of host transactions -/

/-- A run of host transactions empties the port and keeps the invariant: each step takes one of them off. -/
theorem exists_runsTo_of_hostEvents (is : List Instr) {s : State} (h : s.Inv) (hport : s.port = hostEvents is) :
    ∃ t, RunsTo is.length s t ∧ t.port = [] ∧ t.Inv := by
  induction is generalizing s with
  | nil => exact ⟨s, rfl, hport, h⟩
  | cons i is ih =>
    have hinv := everyStepKeepsTheInvariant s _ h (step_hostEvents_cons hport)
    obtain ⟨t, hrun, ht⟩ := ih hinv (afterInstr_port i _)
    exact ⟨t, runsTo_hostEvents_cons hport hrun, ht⟩

/-- Settles O12: the invariant says nothing of the port, so any script can stand on it, and the run is by induction
over the script. -/
theorem everyScriptRunsToCompletion : Obligations.EveryScriptRunsToCompletion :=
  fun is s h => exists_runsTo_of_hostEvents is (h.withHostSide { s with port := hostEvents is }) rfl

/-! ### The record of a failure -/

/-- The row of R223 for an ERR, with the marker bytes and the bound of IBUF_LEN that stand when the command ends. -/
def State.FailureRow (t : State) : Err → Prop
  | .none => False
  | .markerNotFoundSof => t.sofIdx = 0#16 ∧ t.FrameCleared ∧ t.CrcsCleared ∧ t.PayloadCleared
  | .markerNotFoundEof =>
    t.MarkerAt 0x1A#8 0x85#8 t.sofIdx.toNat ∧ t.FrameCleared ∧ t.CrcsCleared ∧ t.PayloadCleared
  | .frameTooShort =>
    t.FrameWithin t.ibufLen.toNat ∧ t.MarkersStand ∧ (t.frameLen = 4#16 ∨ t.frameLen = 5#16) ∧ t.CrcsCleared ∧
    t.PayloadCleared
  | .crcMismatch =>
    t.FrameWithin t.ibufLen.toNat ∧ t.MarkersStand ∧ t.crcRetrieved = t.crcField ∧ t.crcComputed = crc16 t.crcData ∧
    t.crcRetrieved ≠ t.crcComputed ∧ t.PayloadCleared
  | .payloadLengthMismatch | .profileInvalid => t.FrameWithin t.ibufLen.toNat ∧ t.MarkersStand ∧ t.PayloadHeld

/-- A state that has failed holds the row of its ERR. -/
abbrev State.FailureRecorded (t : State) : Prop := t.phase = .failed → t.FailureRow t.err

theorem extractBody_failureRecorded {s : State} (hfit : s.InputsFit) : (extractBody s).state.FailureRecorded := by
  intro hfailed
  obtain ⟨-, h⟩ | ⟨sof, hsof, -, h⟩ | ⟨sof, eof, -, -, h⟩ := extractBody_cases s <;> rw [h] at hfailed ⊢
  · exact ⟨rfl, ⟨rfl, rfl⟩, ⟨rfl, rfl⟩, rfl, rfl⟩
  · obtain ⟨-, hmatch, -⟩ := (s.findMarker_eq_some _ _ _).1 hsof
    have hidx := hfit.index16_of_matchAt hmatch
    refine ⟨?_, ⟨rfl, rfl⟩, ⟨rfl, rfl⟩, rfl, rfl⟩
    rw [StageResult.state_ended, State.raiseFailure_sofIdx, State.holdSof_sofIdx, hidx]
    exact (s.matchAt_iff _ _).1 hmatch
  · cases hfailed

theorem verifyBody_failureRecorded {s : State} (hinv : s.Inv) (hp : s.phase = .verifying) :
    (verifyBody s).state.FailureRecorded := by
  intro hfailed
  obtain ⟨hframe, hmark⟩ := hinv.frameView (.inl hp)
  have hinv' := (verifyBody_reaches hinv hp).inv
  obtain ⟨-, h⟩ | ⟨-, -, h⟩ | ⟨-, -, h⟩ := verifyBody_cases s <;> rw [h] at hfailed hinv' ⊢
  · obtain ⟨-, hrow⟩ := hinv'.tooShort rfl
    exact ⟨hframe, hmark, hrow⟩
  · obtain ⟨-, hrow⟩ := hinv'.mismatch rfl
    exact ⟨hframe, hmark, rfl, rfl, hrow⟩
  · cases hfailed

theorem decodeBody_failureRecorded {s : State} (hinv : s.Inv) (hp : s.phase = .decoding) :
    (decodeBody s).state.FailureRecorded := by
  intro hfailed
  obtain ⟨hframe, hmark⟩ := hinv.frameView (.inr hp)
  have hpay := hinv.payload (.inl hp)
  obtain ⟨-, h⟩ | ⟨-, -, h⟩ | ⟨-, -, h⟩ := decodeBody_cases s <;> rw [h] at hfailed ⊢
  · exact ⟨hframe, hmark, hpay⟩
  · exact ⟨hframe, hmark, hpay⟩
  · cases hfailed

/-- A CYCLE that failed did so in one of its stages, and the stages before it have held what that one needs (R202). -/
theorem cmdCycle_failureRecorded {s : State} (hfit : s.InputsFit) : (cmdCycle s).FailureRecorded := by
  have hextract := extractBody_reaches hfit
  obtain ⟨t, hx, h⟩ | ⟨t, u, hx, hv, h⟩ | ⟨t, u, hx, hv, h⟩ := cmdCycle_cases s <;> rw [h]
  · have hrow := extractBody_failureRecorded hfit
    rwa [hx] at hrow
  · rw [hx] at hextract
    obtain ⟨ht, hp⟩ := hextract
    have hrow := verifyBody_failureRecorded ht hp
    rwa [hv] at hrow
  · rw [hx] at hextract
    obtain ⟨ht, hp⟩ := hextract
    have hverify := verifyBody_reaches ht hp
    rw [hv] at hverify
    obtain ⟨hu, hp⟩ := hverify
    exact decodeBody_failureRecorded hu hp

/-- A VERIFY that ends with CMD_STATUS = OK was not rejected, so it has run (R205). -/
theorem cmdVerify_ok {s : State} (hok : (cmdVerify s).cmdStatus = .ok) :
    s.phase = .verifying ∧ cmdVerify s = (verifyBody s).state := by
  by_cases hp : s.phase = .verifying
  · exact ⟨hp, if_pos hp⟩
  · simp [cmdVerify, hp] at hok

/-- Settles O17: a stage that ran started from the view that the invariant gives it, and its failure adds its row. -/
theorem failureLeavesItsRecord : Obligations.FailureLeavesItsRecord := by
  intro i s t hinv hi hexec hok hfailed
  rw [exec_eq_next] at hexec
  cases hexec
  refine ⟨(hinv.afterInstr i).noReading (by simp [hfailed]), ?_⟩
  have hrow : (afterInstr i s).FailureRecorded := by
    simp only [List.mem_cons, List.not_mem_nil, or_false] at hi
    obtain rfl | rfl | rfl | rfl := hi
    · exact extractBody_failureRecorded hinv.inputsFit
    · obtain ⟨hp, h⟩ := cmdVerify_ok hok
      rw [afterInstr, h]
      exact verifyBody_failureRecorded hinv hp
    · obtain ⟨hp, h⟩ := cmdDecode_ok hok
      rw [afterInstr, h]
      exact decodeBody_failureRecorded hinv hp
    · exact cmdCycle_failureRecorded hinv.inputsFit
  replace hrow := hrow hfailed
  cases herr : (afterInstr i s).err <;> rw [herr] at hrow
  case none => exact hrow.elim
  case markerNotFoundSof => exact .inl ⟨rfl, hrow⟩
  case markerNotFoundEof => exact .inr (.inl ⟨rfl, hrow⟩)
  case frameTooShort => exact .inr (.inr (.inl ⟨rfl, hrow⟩))
  case crcMismatch => exact .inr (.inr (.inr (.inl ⟨rfl, hrow⟩)))
  case payloadLengthMismatch => exact .inr (.inr (.inr (.inr ⟨.inl rfl, hrow⟩)))
  case profileInvalid => exact .inr (.inr (.inr (.inr ⟨.inr rfl, hrow⟩)))

/-! ### The acceptance of a command word -/

/-- The decoder rejects a command word for RSV ≠ 0 or a reserved OP only (R103). -/
theorem illegal_of_decodeCommand_rejected {v : Word} {r : Reject} (h : decodeCommand v = .rejected r) :
    v.extractLsb' 4 12 ≠ 0#12 ∨ 0x7 ≤ (v.extractLsb' 0 4).toNat := by
  by_contra hlegal
  simp only [not_or, not_not, not_le] at hlegal
  obtain ⟨hrsv, hop⟩ := hlegal
  rw [decodeCommand, if_pos hrsv] at h
  interval_cases (v.extractLsb' 0 4).toNat <;> cases h

/-- The word of a command is legal (R100, R101). -/
theorem commandWord_legal (c : Command) :
    ¬ (c.word.extractLsb' 4 12 ≠ 0#12 ∨ 0x7 ≤ (c.word.extractLsb' 0 4).toNat) := by
  cases c <;> decide

theorem cmdVerify_cmdStatus (s : State) :
    (cmdVerify s).cmdStatus = if s.phase ≠ .verifying then .sequence else .ok := by
  by_cases hp : s.phase = .verifying
  · simp [cmdVerify, hp, verifyBody_cmdStatus]
  · simp [cmdVerify_of_misordered hp, hp]

theorem cmdDecode_cmdStatus (s : State) :
    (cmdDecode s).cmdStatus = if s.phase ≠ .decoding then .sequence else .ok := by
  by_cases hp : s.phase = .decoding
  · simp [cmdDecode, hp, decodeBody_cmdStatus]
  · simp [cmdDecode_of_misordered hp, hp]

theorem cmdCrc_cmdStatus_eq (s : State) :
    (cmdCrc s).cmdStatus = if s.ibufLen.toNat < s.crcArgStart.toNat + s.crcArgLen.toNat then .range else .ok := by
  split
  · next h => rw [cmdCrc_of_outside h, State.raiseCmdError_cmdStatus]
  · next h => rw [cmdCrc_of_inside (not_lt.1 h)]

/-- The sequence check is that of VERIFY and DECODE, and the range check that of CRC (R222). -/
theorem afterCommand_cmdStatus (c : Command) (s : State) :
    (afterInstr c.instr s).cmdStatus =
      if (c.word = 0x0003#16 ∧ s.phase ≠ .verifying) ∨ (c.word = 0x0004#16 ∧ s.phase ≠ .decoding) then .sequence
      else if c.word = 0x0006#16 ∧ s.ibufLen.toNat < s.crcArgStart.toNat + s.crcArgLen.toNat then .range
      else .ok := by
  cases c with
  | nop => rfl
  | clear => rfl
  | extract => exact extractBody_cmdStatus s
  | verify => simpa [Command.instr, afterInstr, Command.word, Command.op] using cmdVerify_cmdStatus s
  | decode => simpa [Command.instr, afterInstr, Command.word, Command.op] using cmdDecode_cmdStatus s
  | cycle => exact cmdCycle_cmdStatus s
  | crc => simpa [Command.instr, afterInstr, Command.word, Command.op] using cmdCrc_cmdStatus_eq s

/-- Settles O18: a word that does not decode is illegal, and a command's word is rejected by the checks of its command
alone. -/
theorem commandAcceptance : Obligations.CommandAcceptance := by
  intro v s
  refine ⟨runCommand v s, exec_regWrite_number s .cmd v, ?_⟩
  cases hd : decodeCommand v with
  | rejected r =>
    rw [runCommand_of_rejected hd, if_pos (illegal_of_decodeCommand_rejected hd), State.raiseCmdError_cmdStatus]
  | ok c =>
    obtain rfl := eq_word_of_decodeCommand hd
    rw [runCommand_of_ok hd, if_neg (commandWord_legal c), afterCommand_cmdStatus]

end Sys2Proof.Machine
end

section
/-! Reset and a second host: what the reset state holds (R250, R251), and the refusal of a second host (R259). -/

namespace Sys2Proof.Machine

open Sys2Proof

/-! ### The two port events that are no transaction of the host -/

/-- Settles O8: the branch of `step` for a second host. -/
theorem secondHostIsRefused : Obligations.SecondHostIsRefused := by
  intro s w rest hport
  simp only [step, hport]

theorem step_of_resetInput {s : State} {rest : List PortEvent} (hport : s.port = .resetInput :: rest) :
    step s = .next (s.resetInput rest) := by
  simp only [step, hport]

/-! ### The reset state -/

theorem State.ReadingCleared.fieldAt_eq_zero {s : State} (h : s.ReadingCleared) (i : Nat) : s.fieldAt i = 0#16 := by
  obtain ⟨-, -, -, -, hfield⟩ := h
  by_cases hi : i < s.cfg.fieldCap
  · rw [State.fieldAt, if_pos hi, hfield, List.getD_replicate _ hi]
  · exact if_neg hi

theorem State.resetWith_readingCleared (c : Config) (n : Nat) : (State.resetWith c n).ReadingCleared :=
  ⟨rfl, rfl, rfl, rfl, rfl⟩

/-- The registers with a field of their own hold the value that `State.resetWith` writes; SCALE and the capacities are
read by number (R21), and FIELD is cleared with the reading. -/
theorem State.resetWith_atResetValues (c : Config) (n : Nat) : (State.resetWith c n).AtResetValues := by
  have hscale : (State.resetWith c n).readReg 0x09#8 = 0x0007#16 :=
    (State.readReg_number (State.resetWith c n) .scale).trans (by decide : scaleWord 1#2 3#2 = 0x0007#16)
  have hcapBuf := State.readReg_number (State.resetWith c n) .capBuf
  have hcapField := State.readReg_number (State.resetWith c n) .capField
  have hfield := (State.resetWith_readingCleared c n).fieldAt_eq_zero
  exact ⟨rfl, rfl, rfl, rfl, rfl, rfl, rfl, rfl, hscale, rfl, rfl, rfl, rfl, rfl, rfl, rfl, rfl, rfl, rfl, rfl, rfl, rfl,
    rfl, rfl, rfl, hfield, hcapBuf, hcapField⟩

/-- The reset event leaves the reset state of the same capacities but for the port, which `AtResetValues` does not
speak of. -/
theorem State.resetInput_atResetValues (s : State) (rest : List PortEvent) : (s.resetInput rest).AtResetValues :=
  State.resetWith_atResetValues s.cfg (s.draw + 1)

/-- Settles O13: power-on is the reset state of the suggested capacities, the reset event that of the block's own. -/
theorem resetSetsEveryRegister : Obligations.ResetSetsEveryRegister :=
  ⟨State.resetWith_atResetValues Config.suggested 0, fun s rest hport =>
    ⟨s.resetInput rest, step_of_resetInput hport, rfl, s.resetInput_atResetValues rest⟩⟩

/-- Settles O14: the reset state of legal capacities meets the invariant, and the suggested capacities are legal. -/
theorem resetMeetsTheInvariant : Obligations.ResetMeetsTheInvariant :=
  ⟨fun _ n hlegal => State.resetWith_inv hlegal n, State.resetWith_inv (by decide) 0⟩

end Sys2Proof.Machine
end
